-- ==== Sys2Proof/Word.lean ====
section
/-! DEFINITION. The word types of the Kadbel M214 (00, Conventions): bytes of host memory and of the line, and the
32-bit words of the mirror, of registers and of information words. -/

namespace Sys2Proof

/-- A byte of host memory, of the register window or of a link frame. -/
abbrev Byte := BitVec 8

/-- A 32-bit word: a mirror word, a register, an information word, a counter. -/
abbrev Word := BitVec 32

/-- A host address (64 bits, R185). -/
abbrev Addr := BitVec 64

end Sys2Proof
end

