-- ==== Sys2Proof/Syntax.lean ====
section
/-! DEFINITION. The commands of the block: one constructor for each row of spec/opcode_table.json. -/

namespace Sys2Proof

/-- What a DMA read finds at one byte of host memory (R189; log entry 29). `some b`: the byte b, which the host put there
or which stood there when the read reached it before a later write of the part. `none`: the byte stands as the part's
own latest DMA write left it. -/
abbrev FoundByte := Option Byte

/-- The two submission rings (R141, R148). -/
inductive Ring
  | urgent
  | normal
deriving DecidableEq, Repr

/-- One command is one whole step of the part (95, What each step holds). What a row's summary names as coming from
outside is an operand; what the part holds already (the OCT entry at the head, the oldest checked frame) is not. -/
inductive Instr
  /-- Power-on or assertion of PERST_N (R175). -/
  | coldReset
  /-- Release of PERST_N (R175). -/
  | perstNRelease
  /-- The last mirror word of the INIT pass is written (R2). -/
  | initDone
  /-- CONTROL code 1 (R174, R176). -/
  | start
  /-- CONTROL code 2 (R174, R179). -/
  | stop
  /-- CONTROL code 3 (R174, R182). -/
  | reset
  /-- CONTROL code 4 (R174, R181). -/
  | clearFault
  /-- A whole CONTROL write of this value; its low byte is the code (R174, 11.2). -/
  | controlInvalidCode (value : Word)
  /-- A write of 1 to 8 bytes at a byte offset of the register window (R172). -/
  | registerWrite (offset : BitVec 12) (data : List Byte)
  /-- POST with selector 0 or 1 (R142). -/
  | producerIndexPost (ring : Ring) (index : BitVec 16)
  /-- POST with selector 2 (R143). -/
  | completionConsumerPost (index : BitVec 16)
  /-- POST with selector 3 (R144, R169). -/
  | notificationConsumerPost (index : BitVec 16)
  /-- POST with selector 4 to 7 (R141). -/
  | badPostSelector (selector : BitVec 3) (index : BitVec 16)
  /-- The end of the setup block's DMA read: its 128 bytes, or none for an error (R176). -/
  | setupReadDone (result : Option (Vector FoundByte 128))
  /-- The end of a ring's record fetch: its 32 bytes, or none for an error (R145). -/
  | recordFetchDone (ring : Ring) (result : Option (Vector FoundByte 32))
  /-- The admission arbiter presents a head record (R146, R148). -/
  | recordPresentation
  | nop
  | write
  | read
  | fence
  | stats
  | queryRegion
  | claim
  | release
  | hold
  | unhold
  | setClass
  | watchSet
  | watchClear
  | linkUp
  | linkDown
  /-- The end of the staging transfer of a slot: the bytes read, or none for an error (R122). -/
  | stagingTransferDone (slot : Fin 8) (result : Option (List FoundByte))
  /-- The end of the output transfer of a read buffer, without error or with one (R130). -/
  | readOutputDone (buffer : Fin 4) (ok : Bool)
  /-- The end of the output transfer of the statistics copy (R133). -/
  | statsOutputDone (ok : Bool)
  /-- The end of a completion record's DMA write (R150, R151). -/
  | completionWriteDone (ok : Bool)
  /-- The transmit arbiter chooses and takes a frame (R109, R111). -/
  | frameTake
  /-- The end delimiter of the frame in transmission has been sent (R107). -/
  | transmitEnd
  /-- The frame being received ends: at an end delimiter, or cut by a start delimiter (R102, R105). -/
  | receiveFrameEnd (cut : Bool)
  | helloReceived
  | updateReceived
  | ownReqReceived
  | ownGrantReceived
  | ownDenyReceived
  | syncDoneReceived
  | ackReceived
  | snapshotReceived
  | idleReceived
  | byeReceived
  | retransmissionTimerExpiry
  /-- The deferral timer of a region's pending peer request expires (R35). -/
  | deferralTimerExpiry (region : Fin 64)
  | sweepTimerExpiry
  | helloTimerExpiry
  | silenceTimerExpiry
  | quietTimerExpiry
  | linkActTimeout
  | watchEvaluation
  | notificationTake
  /-- The end of a notification record's DMA write (R165, R151). -/
  | notificationWriteDone (ok : Bool)
  | ringManagerStopReport
  | notificationStopReport
  /-- A start delimiter on the receive pair (R102). -/
  | startDelimiter
  /-- A data byte on the receive pair (R102). -/
  | dataByte (b : Byte)
  /-- A code error indication on the receive pair (R102). -/
  | codeError
deriving DecidableEq, Repr

end Sys2Proof
end

