-- ==== Sys2Proof/Decode.lean ====
section
/-! DEFINITION. The decoder of command words. -/

namespace Sys2Proof

/-- The command that a word spells by the bits of spec/opcode_table.json. The table gives none of its 63 rows any bits
(each row's fields are empty), so no word spells a command (log entry 1). -/
def decodeTableWord (_nbits _w : Nat) : Option Instr := none

end Sys2Proof
end

