-- ==== Sys2Proof/Config.lean ====
section
/-! DEFINITION. What the part fixes (capacities, IDENT) and the two free values of the model. -/

namespace Sys2Proof.Config

/-- UPDATE frames the Transmit List holds at most (R45, R46). -/
def maxUpdates : Nat := 95

/-- Words of one UPDATE frame at most (R44, R47). -/
def updateWords : Nat := 16

/-- Bytes the receive assembly holds at most (R102). -/
def maxFrameBytes : Nat := 296

/-- The urgent run count at which the NORMAL ring has its turn (R148). -/
def urgentRunLimit : Nat := 8

/-- The snapshot turn count at which an offered snapshot has its turn (R109, R110). -/
def snapshotTurnLimit : Nat := 4

/-- Silence lasts this many hello intervals (R97). -/
def silenceIntervals : Nat := 4

/-- The lost count and its top (R164). -/
def lostCountMax : Nat := 65535

/-- The receive age stops here (R75). -/
def ageMax : Nat := 255

/-- GEN_LIMIT (R20). -/
def genLimit : BitVec 32 := 4294967295#32

/-- IDENT (11.2): revision 01h, part code D6h, vendor code 4B47h. -/
def ident : Word := 0x01D64B47#32

/-- A FREE VALUE: what host memory holds at an address which no DMA write of the part has reached, where the command that
ends a read names no byte for it (R189; log entry 29). -/
opaque hostByte : Nat → Byte

/-- A FREE VALUE: which of the remaining items goes next where the spec fixes no order inside a step (R42, R46, R53,
R66; log entries 11 to 14). The first argument is the number of the choice, the second how many items remain. -/
opaque freeIndex : Nat → Nat → Nat

end Sys2Proof.Config
end

