-- ==== Sys2Proof/Machine/Types.lean ====
section
/-! DEFINITION. The names, records and frames the blocks of the part hold (00, Conventions; 11). -/

namespace Sys2Proof.Machine

/-! ## Names -/

/-- How a region is mirrored (R8). -/
inductive RegionClass
  | off | acked | cyclic
deriving DecidableEq, Repr

/-- Ownership of a region as seen by this part (R18). -/
inductive OwnState
  | here | there | claiming | granting
deriving DecidableEq, Repr

/-- Link states (R81). -/
inductive LinkState
  | off | seeking | joining | syncing | up | rejected
deriving DecidableEq, Repr

/-- Device states (10, 10.2). -/
inductive DeviceState
  | init | halted | loading | running | stopping | faulted
deriving DecidableEq, Repr

/-- Fault codes (R180). -/
inductive FaultCode
  | none | ringFetch | recordWrite | badPost | mirrorParity
deriving DecidableEq, Repr

/-- Setup error codes (R176, R177). -/
inductive SetupError
  | none | hostAccess | version | reserved | ringBase | ringSize | nodeId | window | ackTimeout | retryLimit
  | helloInterval | sweepPeriod | policy | region | address
deriving DecidableEq, Repr

/-- Completion statuses (R118). -/
inductive Status
  | ok | okLocal | okStale | unconfirmed | denied | linkLost | notOwner | yielding | inProgress | linkNotUp
  | linkState | genLimit | badCommand | badRange | regionOff | hostAccess | aborted
deriving DecidableEq, Repr

/-- Reasons of a link loss (R98). -/
inductive LossReason
  | retry | silence | peerRestart | peerLeft | host | stop
deriving DecidableEq, Repr

/-- Reasons of LINK_REJECTED (R87). -/
inductive RejectReason
  | sameNode | classMap | sweepPeriod
deriving DecidableEq, Repr

/-- Protocol error kinds (R21, R61, R93). -/
inductive ProtocolKind
  | reqInClaiming | reqRepeated | reqGeneration | grantUnexpected | grantGeneration | grantContent | ackAhead
  | regionRange | regionOff | updateRange | updateClass | updateState | syncRepeated
deriving DecidableEq, Repr

/-- Reasons of an OWN_DENY of this part (R44, 11.5). -/
inductive DenyReason
  | notOwner | held | busy | genLimit
deriving DecidableEq, Repr

/-- Overflow policies of the notification ring (R166 to R168). -/
inductive Policy
  | dropNew | overwriteOld | freeze
deriving DecidableEq, Repr

/-- The source an apply report names (R3): LOCAL for a commit, PEER for every other apply. -/
inductive ApplySource
  | localHost | peer
deriving DecidableEq, Repr

/-- What a ring's head can wait for (R146, R147). -/
inductive Resource
  | completionSpace | octEntry | stagingSlot | readBuffer
deriving DecidableEq, Repr

/-- Phases of an OCT entry (R121). A completed entry is in use until its record has been written (R149). -/
inductive Phase
  | queued | executingWait | awaitingEvent | completed
deriving DecidableEq, Repr

/-- The twelve statistics counters, in the order of R133. -/
inductive Counter
  | framesSent | framesReceived | framesBad | retransmitRounds | duplicates | outOfOrder | epochMismatch
  | snapshotsStale | protocolErrors | sweepOverruns | notifyLost | linkLosses
deriving DecidableEq, Repr

/-- The batch requesters of the Stream Controller (R46). -/
inductive Requester
  | write | refresh
deriving DecidableEq, Repr

/-! ## The mirror and the Region Table -/

/-- A mirror word with its stored parity bit (R1). -/
structure MirrorWord where
  value  : Word
  parity : Bool
deriving DecidableEq, Repr

/-- The mirror's words by word address; `Mirror.wf` says its canonical form. -/
abbrev Mirror := List (Nat × MirrorWord)

/-- A pending peer request: the no_wait flag of its OWN_REQ and its deferral timer, running with a number of
milliseconds or stopped by entry to FAULTED (R31). -/
structure PeerRequest where
  noWait : Bool
  timer  : Option Nat
deriving DecidableEq, Repr

/-- An entry of the Region Table (R8). The watched item is formed from the Watch Table (`State.watched`). -/
structure RegionEntry where
  cls          : RegionClass
  state        : OwnState
  generation   : BitVec 32
  held         : Bool
  pending      : Option PeerRequest
  stagingCount : Nat
  stale        : Bool
  claimEntry   : Option (Fin 32)
  releaseEntry : Option (Fin 32)
  lastSweep    : Option (BitVec 16)
  age          : Nat
deriving DecidableEq, Repr

/-! ## Link frames (11.7) -/

/-- The content of a sequenced frame (R44), as the wire carries it. -/
inductive SeqContent
  | update (region offset : Byte) (words : List Word) (lastOfCommand refresh lastOfRegion : Bool)
  | ownReq (region : Byte) (generation : BitVec 32) (noWait : Bool)
  | ownGrant (region : Byte) (generation : BitVec 32) (content : Option (List Word))
  | ownDeny (region reason : Byte)
  | syncDone
deriving DecidableEq, Repr

/-- Fresh flag, sweep period, class map and claim map with generations: what R88 fixes and what R89 keeps of the
peer. A class is kept as its two bits, since a received map may hold the code 3 (R186). -/
structure HelloContent where
  fresh       : Bool
  sweepPeriod : BitVec 16
  classMap    : Vector (BitVec 2) 64
  claims      : Vector Bool 64
  generations : Vector (BitVec 32) 64
deriving DecidableEq, Repr

/-- A HELLO but for its epoch (R85). `heard` is none where the heard-valid flag is clear. -/
structure HelloBody where
  nodeId  : BitVec 16
  heard   : Option (BitVec 16)
  joined  : Bool
  content : HelloContent
deriving DecidableEq, Repr

/-- The ten frame kinds, the five sequenced ones together (R103). -/
inductive FrameBody
  | hello (h : HelloBody)
  | sequenced (seq ack : BitVec 8) (content : SeqContent)
  | ack (value : BitVec 8)
  | snapshot (region : Byte) (sweep : BitVec 16) (generation : BitVec 32) (words : List Word)
  | idle
  | bye
deriving DecidableEq, Repr

/-- A frame: the sender's epoch and what follows it (R103). -/
structure Frame where
  epoch : BitVec 16
  body  : FrameBody
deriving DecidableEq, Repr

/-- What the transmit arbiter can choose (R107): a sequenced frame by its place in the Transmit List, a snapshot by its
region. -/
inductive FrameChoice
  | bye
  | hello
  | sequenced (place : Nat)
  | ack
  | snapshot (region : Fin 64)
  | idle
deriving DecidableEq, Repr

/-- An entry of the Transmit List (R44). The owning OCT entry is kept at this part and not sent. -/
structure TxEntry where
  content : SeqContent
  seq     : BitVec 8
  sent    : Bool
  resend  : Bool
  owner   : Option (Fin 32)
deriving DecidableEq, Repr

/-- The recorded peer (05). -/
structure Peer where
  nodeId : BitVec 16
  epoch  : BitVec 16
deriving DecidableEq, Repr

/-- The refresh cursor: its region, its step 0 to 3 and its waiting mark (R92). -/
structure RefreshCursor where
  region  : Fin 64
  step    : Nat
  waiting : Bool
deriving DecidableEq, Repr

/-- A frame being received: its bytes in order and its discard mark (R102). -/
structure Assembly where
  bytes   : List Byte
  discard : Bool
deriving DecidableEq, Repr

/-! ## Commands and their entries (07) -/

/-- Where a WRITE's words come from (R115). -/
inductive WriteSource
  | inline (words : List Word)
  | buffer (addr : Addr)
deriving DecidableEq, Repr

/-- The fields a WATCH_SET puts into a slot (R158). -/
structure WatchSpec where
  region  : Fin 64
  first   : Nat
  last    : Nat
  isMatch : Bool
  both    : Bool
  oneShot : Bool
  mask    : Word
  value   : Word
deriving DecidableEq, Repr

/-- A command record that passed its operand checks (R115, R116). -/
inductive Command
  | nop
  | write (region : Fin 64) (offset count : Nat) (source : WriteSource) (waitRemote : Bool)
  | read (region : Fin 64) (offset count : Nat) (addr : Addr)
  | fence
  | stats (addr : Addr) (clear : Bool)
  | queryRegion (region : Fin 64)
  | claim (region : Fin 64) (noWait : Bool)
  | release (region : Fin 64)
  | hold (region : Fin 64)
  | unhold (region : Fin 64)
  | setClass (region : Fin 64) (cls : RegionClass) (initialHere : Bool)
  | watchSet (slot : Fin 16) (spec : WatchSpec)
  | watchClear (slot : Fin 16)
  | linkUp
  | linkDown
deriving DecidableEq, Repr

/-- The three information words of a completion (R119). -/
structure Info where
  w0 : Word
  w1 : Word
  w2 : Word
deriving DecidableEq, Repr

/-- An entry in use of the Outstanding Command Table (R149). `info` keeps the information words of a WRITE that
awaits its acknowledgement, taken at its step (R119). -/
structure OctEntry where
  ring    : Ring
  tag     : BitVec 16
  command : Command
  phase   : Phase
  staging : Option (Fin 8)
  buffer  : Option (Fin 4)
  mark    : Option (BitVec 8)
  info    : Info
deriving DecidableEq, Repr

/-- A staging slot in use (R122). Its transfer is in progress while both flags are clear. -/
structure StagingSlot where
  entry   : Fin 32
  words   : List Word
  arrived : Bool
  error   : Bool
deriving DecidableEq, Repr

/-- What a READ capture put into its buffer (R4, R124). -/
structure Capture where
  words      : List Word
  generation : BitVec 32
  stale      : Bool
deriving DecidableEq, Repr

/-- A read buffer in use (R124). -/
structure ReadBuffer where
  entry   : Fin 32
  capture : Option Capture
deriving DecidableEq, Repr

/-- A completion requested and not yet written (R150). Its OCT entry is none for a record refused at admission. -/
structure Completion where
  ring   : Ring
  tag    : BitVec 16
  status : Status
  info   : Info
  entry  : Option (Fin 32)
deriving DecidableEq, Repr

/-- The Ring Manager's view of a submission ring (08). -/
structure SubRing where
  producer : Nat
  fetch    : Nat
  copy     : Option (List Byte)
  fetching : Bool
  waiting  : Option Resource
deriving DecidableEq, Repr

/-! ## Watches and notifications (09) -/

/-- An entry of the Watch Table (R157). -/
structure WatchEntry where
  armed : Bool
  spec  : WatchSpec
deriving DecidableEq, Repr

/-- An apply report (R3). -/
structure ApplyReport where
  region : Fin 64
  first  : Nat
  source : ApplySource
  before : List Word
  after  : List Word
deriving DecidableEq, Repr

/-- The events of R163 with their parameters. -/
inductive Event
  | linkUp
  | linkLost (reason : LossReason)
  | linkRejected (reason : RejectReason)
  | ownershipArrived (region : Fin 64) (viaGrant : Bool)
  | ownershipLost (region : Fin 64)
  | ownershipKept (region : Fin 64)
  | deferralExpired (region : Fin 64)
  | cyclicStale (region : Fin 64)
  | cyclicFresh (region : Fin 64)
  | sweepOverrun (count : Word)
  | protocolError (kind : ProtocolKind) (region : Option Byte)
  | notifyResumed (lost : Nat)
deriving DecidableEq, Repr

/-- A WATCH record's items (R162) or an event: what a block submits (R164). -/
inductive Submission
  | watch (slot : Fin 16) (region : Fin 64) (offset : Nat) (value : Word) (count : Nat) (source : ApplySource)
  | event (e : Event)
deriving DecidableEq, Repr

/-- A notification record in its write: its sequence number, its lost field and its items (R164). -/
structure NotifyRecord where
  number : BitVec 16
  lost   : Nat
  body   : Submission
deriving DecidableEq, Repr

/-! ## Setup (10, 11.3) -/

/-- A setup block that passed validation (R177). `descriptors` gives each region's class and whether its initial owner
is HERE. -/
structure SetupParams where
  autoLink       : Bool
  nodeId         : BitVec 16
  window         : Nat
  ackTimeout     : Nat
  retryLimit     : Nat
  helloInterval  : Nat
  sweepPeriod    : Nat
  staleLimit     : Nat
  policy         : Policy
  deferralLimit  : Nat
  urgentSize     : Nat
  normalSize     : Nat
  completionSize : Nat
  notifySize     : Nat
  urgentBase     : Addr
  normalBase     : Addr
  completionBase : Addr
  notifyBase     : Addr
  descriptors    : Vector (RegionClass × Bool) 64
deriving DecidableEq, Repr

/-- What a block reads where no setup parameters are loaded: no run reaches such a read (log entry 25). -/
def SetupParams.unloaded : SetupParams where
  autoLink       := false
  nodeId         := 0
  window         := 0
  ackTimeout     := 0
  retryLimit     := 0
  helloInterval  := 0
  sweepPeriod    := 0
  staleLimit     := 0
  policy         := .dropNew
  deferralLimit  := 0
  urgentSize     := 0
  normalSize     := 0
  completionSize := 0
  notifySize     := 0
  urgentBase     := 0
  normalBase     := 0
  completionBase := 0
  notifyBase     := 0
  descriptors    := Vector.replicate 64 (.off, false)

/-! ## Host memory -/

/-- Host memory as the part's own DMA writes have left it, by byte address; `HostMemory.wf` says its canonical form. What
the host puts there comes with the reads that find it (log entry 29). -/
abbrev HostMemory := List Host.Cell

/-! ## What leaves the part -/

/-- What the outside sees of the part besides its pins: MSI messages, DMA reads begun, DMA writes made, frames sent
whole on LTX between their delimiters, and a frame cut off by a reset (log entry 5). -/
inductive Emission
  | msi (vector : Nat)
  | hostRead (addr : Addr) (bytes : Nat)
  | hostWrite (addr : Addr) (data : List Byte)
  | lineFrame (bytes : List Byte)
  | lineCut
deriving DecidableEq, Repr

end Sys2Proof.Machine
end

