-- ==== Sys2Proof/Machine/State.lean ====
section
/-! DEFINITION. The state of the part, block by block as 00's block diagram lists it, its value after cold reset, and
the reasons a step could stop. -/

namespace Sys2Proof.Machine

/-- Model faults. There is none: a device fault is an effect on the state (the part enters FAULTED, R180), and the
spec gives every command of the table an effect in every state. Nobody raises one; safe. -/
inductive Fault
deriving DecidableEq, Repr

/-- Refusals of the model. -/
inductive Refusal
  /-- Raised by an arm of `exec` whose command has no meaning yet; no arm does. Safe. -/
  | notModelled (mnemonic : String)
deriving DecidableEq, Repr

/-- Host Port registers and Device Controller (10). -/
structure DeviceBlock where
  /-- PERST_N is asserted: the part is held in cold reset (R175). -/
  perst          : Bool
  state          : DeviceState
  setupLo        : Word
  setupHi        : Word
  /-- The setup address taken at the acceptance of START, for the read in progress (R176). -/
  loadAddr       : Addr
  setup          : Option SetupParams
  faultCode      : FaultCode
  setupError     : SetupError
  controlRefused : Bool
  rmReport       : Bool
  npReport       : Bool
  counters       : Vector Word 12
deriving DecidableEq, Repr

/-- Ring Manager (08). -/
structure RingBlock where
  urgent    : SubRing
  normal    : SubRing
  urgentRun : Nat
  post      : Nat
  consumer  : Nat
  phase     : Bool
  reserved  : Nat
  posting   : List Completion
  irq       : Bool
deriving DecidableEq, Repr

/-- Command Engine (07). -/
structure CommandBlock where
  oct       : Vector (Option OctEntry) 32
  queue     : List (Fin 32)
  staging   : Vector (Option StagingSlot) 8
  buffers   : Vector (Option ReadBuffer) 4
  statsCopy : Option (Vector Word 12)
deriving DecidableEq, Repr

/-- Stream Controller (03). The retransmission timer holds its duration in units of 50 µs. The refresh cursor as a
waiting requester is its own waiting mark. -/
structure StreamBlock where
  list         : List TxEntry
  nextSeq      : BitVec 8
  expected     : BitVec 8
  timer        : Option Nat
  retryCount   : Nat
  sessionAcked : Bool
  ackDue       : Bool
  waitWrite    : Bool
deriving DecidableEq, Repr

/-- Sweep Controller (04). -/
structure SweepBlock where
  timer    : Option Nat
  number   : BitVec 16
  cursor   : Option (Fin 64)
  offered  : Option (Fin 64)
  pending  : Bool
  overrun  : Bool
deriving DecidableEq, Repr

/-- Link Controller (05). Timers hold their duration in milliseconds. -/
structure LinkBlock where
  state        : LinkState
  epoch        : BitVec 16
  peer         : Option Peer
  peerContent  : Option HelloContent
  fixed        : Option HelloContent
  fresh        : Bool
  helloTimer   : Option Nat
  silenceTimer : Option Nat
  confirmDue   : Bool
  refresh      : Option RefreshCursor
  syncSent     : Bool
  syncReceived : Bool
deriving DecidableEq, Repr

/-- Link Framer (06). -/
structure FramerBlock where
  assembly     : Option Assembly
  heldFrames   : List Frame
  transmitting : Option Frame
  bye          : Option (BitVec 16)
  hello        : Option HelloBody
  turnCount    : Nat
  quietTimer   : Option Nat
  idleDue      : Bool
deriving DecidableEq, Repr

/-- Watch Unit (09). -/
structure WatchBlock where
  table   : Vector WatchEntry 16
  reports : List ApplyReport
deriving DecidableEq, Repr

/-- Notification Poster (09). -/
structure NotifyBlock where
  queue    : List Submission
  post     : Nat
  consumer : Nat
  phase    : Bool
  number   : BitVec 16
  lost     : Nat
  frozen   : Bool
  irq      : Bool
  writing  : Option NotifyRecord
deriving DecidableEq, Repr

/-- The whole part. The last four fields stand outside it: host memory as the part's DMA writes have left it (R189); and,
the model's own, what has left the part, newest first; the number of free choices taken; the commands that wait, first
in, first out. -/
structure State where
  dev        : DeviceBlock
  mirror     : Mirror
  regions    : Vector RegionEntry 64
  rings      : RingBlock
  cmd        : CommandBlock
  stream     : StreamBlock
  sweep      : SweepBlock
  link       : LinkBlock
  framer     : FramerBlock
  watch      : WatchBlock
  notif      : NotifyBlock
  pinLinkAct : Bool
  hostMem    : HostMemory
  emitted    : List Emission
  choices    : Nat
  pending    : List Instr
deriving DecidableEq, Repr

/-! ## Values after cold reset and device reset -/

/-- A region's entry after cold reset and device reset (R8). -/
def RegionEntry.reset : RegionEntry :=
  { cls := .off, state := .there, generation := 0, held := false, pending := none, stagingCount := 0, stale := false,
    claimEntry := none, releaseEntry := none, lastSweep := none, age := 0 }

/-- A submission ring after cold reset, device reset and START (R156). -/
def SubRing.reset : SubRing := { producer := 0, fetch := 0, copy := none, fetching := false, waiting := none }

/-- The Ring Manager after cold reset, device reset and START (R156). -/
def RingBlock.reset : RingBlock :=
  { urgent := .reset, normal := .reset, urgentRun := 0, post := 0, consumer := 0, phase := true, reserved := 0,
    posting := [], irq := false }

/-- The Command Engine after cold reset, device reset, START and CLEAR_FAULT (R137, R149). -/
def CommandBlock.reset : CommandBlock :=
  { oct := Vector.replicate 32 none, queue := [], staging := Vector.replicate 8 none,
    buffers := Vector.replicate 4 none, statsCopy := none }

/-- The Stream Controller after cold reset, device reset, START and CLEAR_FAULT (R65). -/
def StreamBlock.reset : StreamBlock :=
  { list := [], nextSeq := 0, expected := 0, timer := none, retryCount := 0, sessionAcked := false, ackDue := false,
    waitWrite := false }

/-- The Sweep Controller after cold reset, device reset, START and CLEAR_FAULT (R80). -/
def SweepBlock.reset : SweepBlock :=
  { timer := none, number := 0, cursor := none, offered := none, pending := false, overrun := false }

/-- The Link Controller after cold reset and device reset (R101). -/
def LinkBlock.reset : LinkBlock :=
  { state := .off, epoch := 0, peer := none, peerContent := none, fixed := none, fresh := false, helloTimer := none,
    silenceTimer := none, confirmDue := false, refresh := none, syncSent := false, syncReceived := false }

/-- The Link Framer after cold reset and device reset (R114). -/
def FramerBlock.reset : FramerBlock :=
  { assembly := none, heldFrames := [], transmitting := none, bye := none, hello := none, turnCount := 0,
    quietTimer := none, idleDue := false }

/-- The fields of a cleared watch slot (R157). -/
def WatchSpec.zero : WatchSpec :=
  { region := 0, first := 0, last := 0, isMatch := false, both := false, oneShot := false, mask := 0, value := 0 }

/-- The Watch Unit after cold reset, device reset and START (R157, R171). -/
def WatchBlock.reset : WatchBlock :=
  { table := Vector.replicate 16 { armed := false, spec := .zero }, reports := [] }

/-- The Notification Poster after cold reset, device reset and START (R171). -/
def NotifyBlock.reset : NotifyBlock :=
  { queue := [], post := 0, consumer := 0, phase := true, number := 0, lost := 0, frozen := false, irq := false,
    writing := none }

/-- The Device Controller after cold reset: INIT, nothing loaded, everything clear (R175, R184). The address of a setup
read, which no START has taken yet, is 0 (DESIGN CHOICE, log entry 4). The two stop reports, which chapter 10 gives a
value only while STOPPING, are not received (DESIGN CHOICE, log entry 45). -/
def DeviceBlock.reset : DeviceBlock :=
  { perst := false, state := .init, setupLo := 0, setupHi := 0, loadAddr := 0, setup := none, faultCode := .none,
    setupError := .none, controlRefused := false, rmReport := false, npReport := false, counters := Vector.replicate 12 0 }

/-- The part as PERST_N is released at power-on (R175): every block at its value after cold reset, the device in INIT.
The mirror lists nothing and so reads 0 with correct parity, the value the INIT pass gives it (R2; log entry 6).
LINK_ACT is low (log entry 7); no DMA write has been made (log entry 29). -/
def State.reset : State :=
  { dev := .reset, mirror := [], regions := Vector.replicate 64 .reset, rings := .reset, cmd := .reset,
    stream := .reset, sweep := .reset, link := .reset, framer := .reset, watch := .reset, notif := .reset,
    pinLinkAct := false, hostMem := [], emitted := [], choices := 0, pending := [] }

end Sys2Proof.Machine
end

