-- ==== Sys2Proof/Machine/HostMemory.lean ====
section
/-! DEFINITION. Host memory as the part's DMA transfers meet it: writes replace bytes, and reads find what the writes left
or what the host put there (R189; log entry 29). -/

namespace Sys2Proof.Machine

/-- The byte that the part's latest DMA write left at an address; none where no write of the part has reached. -/
def HostMemory.read : HostMemory → Nat → Option Byte
  | [], _ => none
  | (b, x) :: rest, a => if a = b then some x else HostMemory.read rest a

/-- One byte is replaced, in the place that its address has. -/
def HostMemory.write : HostMemory → Nat → Byte → HostMemory
  | [], a, x => [(a, x)]
  | (b, y) :: rest, a, x =>
    if a < b then (a, x) :: (b, y) :: rest
    else if a = b then (a, x) :: rest
    else (b, y) :: HostMemory.write rest a x

/-- The addresses rise strictly from `low` on. -/
def HostMemory.risesFrom : Nat → HostMemory → Bool
  | _, [] => true
  | low, (a, _) :: rest => decide (low ≤ a) && HostMemory.risesFrom (a + 1) rest

/-- The canonical form: addresses strictly rising and inside the 64-bit address space. -/
def HostMemory.wf (m : HostMemory) : Bool :=
  HostMemory.risesFrom 0 m && m.all fun c => decide (c.1 < 2 ^ 64)

/-- A DMA write of bytes from an address on replaces what stands there (R189). -/
def HostMemory.store : HostMemory → Addr → List Byte → HostMemory
  | m, _, [] => m
  | m, a, x :: rest => HostMemory.store (m.write a.toNat x) (a + 1) rest

/-- One byte as a DMA read takes it (R189): the byte found there, or else the one that the part's latest write left. Where
neither is known, the byte is free. -/
def HostMemory.take (m : HostMemory) (a : Nat) (found : FoundByte) : Byte :=
  found.getD ((m.read a).getD (Config.hostByte a))

/-- The bytes that a DMA read takes from an address on. -/
def HostMemory.load : HostMemory → Addr → List FoundByte → List Byte
  | _, _, [] => []
  | m, a, x :: rest => m.take a.toNat x :: HostMemory.load m (a + 1) rest

/-- A DMA write to host memory has been made (R189; log entry 4). -/
def State.hostWritten (s : State) (addr : Addr) (data : List Byte) : State :=
  { s with hostMem := s.hostMem.store addr data, emitted := .hostWrite addr data :: s.emitted }

end Sys2Proof.Machine
end

