-- ==== Sys2Proof/Machine/Mirror.lean ====
section
/-! DEFINITION. The Mirror: 4,096 words with parity in one canonical form, and whole applies and captures (01). -/

namespace Sys2Proof.Machine

/-- The parity bit that makes the count of one bits in the 33 stored bits odd (R1). -/
def oddParity (v : Word) : Bool := (List.range 32).foldl (fun p i => Bool.xor p (v.getLsbD i)) true

/-- A word as an apply stores it: its value with correct parity (R1). -/
def MirrorWord.ofValue (v : Word) : MirrorWord := { value := v, parity := oddParity v }

/-- The stored parity satisfies the odd rule (R1). -/
def MirrorWord.good (w : MirrorWord) : Bool := w.parity == oddParity w.value

/-- What a word address that the mirror does not list reads as: 0 with correct parity, the content of every word after
the INIT pass (R2). -/
def MirrorWord.blank : MirrorWord := { value := 0, parity := true }

/-- Words of the mirror (01). -/
def mirrorSize : Nat := 4096

/-- The word address of a region's offset (01). -/
def wordAddress (region : Fin 64) (offset : Nat) : Nat := region.val * 64 + offset

/-- The stored word at a word address. -/
def Mirror.read : Mirror → Nat → MirrorWord
  | [], _ => .blank
  | (b, w) :: rest, a => if a = b then w else Mirror.read rest a

/-- Stores one word, keeping the canonical form: an entry equal to the blank word is not listed. -/
def Mirror.write : Mirror → Nat → MirrorWord → Mirror
  | [], a, w => if w = .blank then [] else [(a, w)]
  | (b, x) :: rest, a, w =>
    if a < b then (if w = .blank then (b, x) :: rest else (a, w) :: (b, x) :: rest)
    else if a = b then (if w = .blank then rest else (a, w) :: rest)
    else (b, x) :: Mirror.write rest a w

/-- The addresses rise strictly from `low` on. -/
def Mirror.risesFrom : Nat → Mirror → Bool
  | _, [] => true
  | low, (a, _) :: rest => decide (low ≤ a) && Mirror.risesFrom (a + 1) rest

/-- The canonical form: addresses strictly rising and inside the mirror, and no entry equal to the blank word. -/
def Mirror.wf (m : Mirror) : Bool :=
  Mirror.risesFrom 0 m && m.all (fun c => decide (c.1 < mirrorSize) && decide (c.2 ≠ .blank))

/-- Writes consecutive words with their new values and new parity (R3). The overwritten words are not checked (R1).
An address outside the mirror's 4,096 words does not exist and takes no word. -/
def Mirror.writeRange : Mirror → Nat → List Word → Mirror
  | m, _, [] => m
  | m, a, v :: rest =>
    Mirror.writeRange (if a < mirrorSize then m.write a (.ofValue v) else m) (a + 1) rest

/-- The values of `count` consecutive words. -/
def Mirror.values (m : Mirror) : Nat → Nat → List Word
  | _, 0 => []
  | a, n + 1 => (m.read a).value :: Mirror.values m (a + 1) n

/-- Every one of `count` consecutive words has correct parity. -/
def Mirror.rangeGood (m : Mirror) : Nat → Nat → Bool
  | _, 0 => true
  | a, n + 1 => (m.read a).good && Mirror.rangeGood m (a + 1) n

/-- One whole apply: the words of the range are written, and the report of it joins the Watch Unit's reports (R3). -/
def State.apply (s : State) (region : Fin 64) (offset : Nat) (words : List Word) (source : ApplySource) : State :=
  { s with
    mirror := s.mirror.writeRange (wordAddress region offset) words
    watch.reports := s.watch.reports ++
      [{ region := region, first := offset, source := source,
         before := s.mirror.values (wordAddress region offset) words.length, after := words }] }

/-- One whole capture: the words of the range, or none where one of them has a parity error (R4, R7). -/
def State.capture (s : State) (region : Fin 64) (offset count : Nat) : Option (List Word) :=
  if s.mirror.rangeGood (wordAddress region offset) count then some (s.mirror.values (wordAddress region offset) count)
  else none

end Sys2Proof.Machine
end

