-- ==== Sys2Proof/Machine/Layout.lean ====
section
/-! DEFINITION. The layouts of 11: little-endian fields, CRC-32, link frames, the setup block, completion and
notification records; and the framer's checks of a received frame (06). -/

namespace Sys2Proof.Machine

/-! ## Little-endian fields (R185) -/

/-- The `n` bytes of a field, least significant byte first. -/
def leBytes : Nat → Nat → List Byte
  | 0, _ => []
  | n + 1, v => BitVec.ofNat 8 v :: leBytes n (v / 256)

/-- The number that bytes hold, least significant byte first. -/
def leNat : List Byte → Nat
  | [] => 0
  | b :: rest => b.toNat + 256 * leNat rest

/-- The field of `n` bytes at a byte offset of a record or frame. -/
def fieldAt (bytes : List Byte) (offset n : Nat) : Nat := leNat ((bytes.drop offset).take n)

/-- One byte at an offset. -/
def byteAt (bytes : List Byte) (offset : Nat) : Byte := BitVec.ofNat 8 (fieldAt bytes offset 1)

/-- A flag bit of the byte at an offset. -/
def flagAt (bytes : List Byte) (offset bit : Nat) : Bool := (fieldAt bytes offset 1).testBit bit

/-- Words follow one another with no gap, each little-endian (R185). -/
def wordBytes (words : List Word) : List Byte := words.flatMap fun w => leBytes 4 w.toNat

/-- The words that bytes hold; fewer than four bytes at the end hold none. -/
def bytesWords : List Byte → List Word
  | b0 :: b1 :: b2 :: b3 :: rest => BitVec.ofNat 32 (leNat [b0, b1, b2, b3]) :: bytesWords rest
  | _ => []

/-- A flag as a number. -/
def bit (b : Bool) : Nat := if b then 1 else 0

/-! ## CRC-32 (R104) -/

/-- The generator of R104 with the coefficient of x^k at bit 31 - k, since each byte enters least significant bit
first (the customary CRC-32; log entry 9). -/
def crcGenerator : BitVec 32 := 0xEDB88320#32

/-- One bit of a byte enters the remainder register. -/
def crcBit (r : BitVec 32) : BitVec 32 := if r.getLsbD 0 then (r >>> 1) ^^^ crcGenerator else r >>> 1

/-- One byte enters the remainder register. -/
def crcByte (r : BitVec 32) (b : Byte) : BitVec 32 :=
  crcBit (crcBit (crcBit (crcBit (crcBit (crcBit (crcBit (crcBit (r ^^^ b.setWidth 32))))))))

/-- The CRC-32 of bytes in the order sent: preset to all ones, complemented after the last byte (R104). -/
def crc32 (bytes : List Byte) : BitVec 32 := ~~~ (bytes.foldl crcByte 0xFFFFFFFF#32)

/-! ## Code values -/

/-- Class codes (11.3, 11.5). -/
def RegionClass.code : RegionClass → Nat
  | .off => 0 | .acked => 1 | .cyclic => 2

/-- The class a code names; 3 names none (11.3). -/
def RegionClass.ofCode : Nat → Option RegionClass
  | 0 => some .off | 1 => some .acked | 2 => some .cyclic | _ => none

/-- State codes of the region summary (11.5). -/
def OwnState.code : OwnState → Nat
  | .here => 0 | .there => 1 | .claiming => 2 | .granting => 3

/-- Device state codes of STATUS (11.2). -/
def DeviceState.code : DeviceState → Nat
  | .init => 0 | .halted => 1 | .loading => 2 | .running => 3 | .stopping => 4 | .faulted => 5

/-- Link state codes of STATUS and of LINK_UP and LINK_DOWN completions (11.2, 11.5). -/
def LinkState.code : LinkState → Nat
  | .off => 0 | .seeking => 1 | .joining => 2 | .syncing => 3 | .up => 4 | .rejected => 5

/-- Fault codes (R180). -/
def FaultCode.code : FaultCode → Nat
  | .none => 0 | .ringFetch => 1 | .recordWrite => 2 | .badPost => 3 | .mirrorParity => 4

/-- Setup error codes (R177). -/
def SetupError.code : SetupError → Nat
  | .none => 0 | .hostAccess => 1 | .version => 2 | .reserved => 3 | .ringBase => 4 | .ringSize => 5 | .nodeId => 6
  | .window => 7 | .ackTimeout => 8 | .retryLimit => 9 | .helloInterval => 10 | .sweepPeriod => 11 | .policy => 12
  | .region => 13 | .address => 14

/-- Status codes (R118). -/
def Status.code : Status → Nat
  | .ok => 0 | .okLocal => 1 | .okStale => 2 | .unconfirmed => 3 | .denied => 4 | .linkLost => 5 | .notOwner => 6
  | .yielding => 7 | .inProgress => 8 | .linkNotUp => 9 | .linkState => 10 | .genLimit => 11 | .badCommand => 12
  | .badRange => 13 | .regionOff => 14 | .hostAccess => 15 | .aborted => 16

/-- Codes of link loss reasons (11.6). -/
def LossReason.code : LossReason → Nat
  | .retry => 1 | .silence => 2 | .peerRestart => 3 | .peerLeft => 4 | .host => 5 | .stop => 6

/-- Codes of LINK_REJECTED reasons (11.6). -/
def RejectReason.code : RejectReason → Nat
  | .sameNode => 1 | .classMap => 2 | .sweepPeriod => 3

/-- Codes of protocol error kinds (11.6). -/
def ProtocolKind.code : ProtocolKind → Nat
  | .reqInClaiming => 1 | .reqRepeated => 2 | .reqGeneration => 3 | .grantUnexpected => 4 | .grantGeneration => 5
  | .grantContent => 6 | .ackAhead => 7 | .regionRange => 8 | .regionOff => 9 | .updateRange => 10 | .updateClass => 11
  | .updateState => 12 | .syncRepeated => 13

/-- Codes of deny reasons, in OWN_DENY frames and in completions alike (11.5). -/
def DenyReason.code : DenyReason → Nat
  | .notOwner => 1 | .held => 2 | .busy => 3 | .genLimit => 4

/-- The wire's region number of a region. -/
def regionByte (region : Fin 64) : Byte := BitVec.ofNat 8 region.val

/-- The region a received number names, if it is 0 to 63. -/
def regionOfByte (b : Byte) : Option (Fin 64) := if h : b.toNat < 64 then some ⟨b.toNat, h⟩ else none

/-! ## Link frames (11.7, R103) -/

/-- Kind codes (11.7). -/
def FrameBody.kindCode : FrameBody → Nat
  | .hello _ => 1
  | .sequenced _ _ (.update ..) => 2
  | .sequenced _ _ (.ownReq ..) => 3
  | .sequenced _ _ (.ownGrant ..) => 4
  | .sequenced _ _ (.ownDeny ..) => 5
  | .sequenced _ _ .syncDone => 6
  | .ack _ => 7
  | .snapshot .. => 8
  | .idle => 9
  | .bye => 10

/-- An item of a vector by number, for the packed maps of HELLO. -/
def itemAt {α : Type} {n : Nat} (v : Vector α n) (i : Nat) (other : α) : α := v[i]?.getD other

/-- The class map: two bits a region, four regions a byte (11.7). -/
def classMapBytes (v : Vector (BitVec 2) 64) : List Byte :=
  (List.range 16).map fun j =>
    BitVec.ofNat 8 ((itemAt v (4 * j) 0).toNat + 4 * (itemAt v (4 * j + 1) 0).toNat
      + 16 * (itemAt v (4 * j + 2) 0).toNat + 64 * (itemAt v (4 * j + 3) 0).toNat)

/-- The claim map: one bit a region, eight regions a byte (11.7). -/
def claimMapBytes (v : Vector Bool 64) : List Byte :=
  (List.range 8).map fun j =>
    BitVec.ofNat 8 (bit (itemAt v (8 * j) false) + 2 * bit (itemAt v (8 * j + 1) false)
      + 4 * bit (itemAt v (8 * j + 2) false) + 8 * bit (itemAt v (8 * j + 3) false)
      + 16 * bit (itemAt v (8 * j + 4) false) + 32 * bit (itemAt v (8 * j + 5) false)
      + 64 * bit (itemAt v (8 * j + 6) false) + 128 * bit (itemAt v (8 * j + 7) false))

/-- The bytes of a HELLO after its epoch (11.7). -/
def HelloBody.bytes (h : HelloBody) : List Byte :=
  leBytes 2 h.nodeId.toNat ++ leBytes 2 (h.heard.getD 0).toNat
    ++ [BitVec.ofNat 8 (bit h.heard.isSome + 2 * bit h.joined + 4 * bit h.content.fresh)]
    ++ leBytes 2 h.content.sweepPeriod.toNat ++ [0, 0]
    ++ classMapBytes h.content.classMap ++ claimMapBytes h.content.claims
    ++ h.content.generations.toList.flatMap fun g => leBytes 4 g.toNat

/-- The bytes of a sequenced frame after its acknowledgement field (11.7). -/
def SeqContent.bytes : SeqContent → List Byte
  | .update region offset words lastOfCommand refresh lastOfRegion =>
    [region, offset, BitVec.ofNat 8 words.length,
      BitVec.ofNat 8 (bit lastOfCommand + 2 * bit refresh + 4 * bit lastOfRegion), 0, 0, 0] ++ wordBytes words
  | .ownReq region generation noWait =>
    [region, BitVec.ofNat 8 (bit noWait), 0] ++ leBytes 4 generation.toNat ++ [0, 0, 0, 0]
  | .ownGrant region generation content =>
    [region, 0, 0] ++ leBytes 4 generation.toNat ++ wordBytes (content.getD [])
  | .ownDeny region reason => [region, reason, 0, 0, 0, 0, 0]
  | .syncDone => [0, 0, 0]

/-- The bytes of a frame after its epoch (11.7). -/
def FrameBody.bytes : FrameBody → List Byte
  | .hello h => h.bytes
  | .sequenced number acked content => number :: acked :: content.bytes
  | .ack value => [value]
  | .snapshot region sweep generation words =>
    region :: leBytes 2 sweep.toNat ++ [0, 0] ++ leBytes 4 generation.toNat ++ wordBytes words
  | .idle => [0]
  | .bye => [0]

/-- A frame's content: everything the CRC-32 covers (R103, R104). -/
def Frame.content (f : Frame) : List Byte :=
  BitVec.ofNat 8 f.body.kindCode :: leBytes 2 f.epoch.toNat ++ f.body.bytes

/-- A frame as it lies between its delimiters: its content and the four bytes of its CRC-32, least significant byte
first (R102, R104). -/
def Frame.bytes (f : Frame) : List Byte := f.content ++ leBytes 4 (crc32 f.content).toNat

/-- The frame has the shape its kind permits (R103): 1 to 16 words in an UPDATE, 64 in a SNAPSHOT and in a grant with
content. -/
def FrameBody.permitted : FrameBody → Bool
  | .sequenced _ _ (.update _ _ words _ _ _) => decide (1 ≤ words.length) && decide (words.length ≤ 16)
  | .sequenced _ _ (.ownGrant _ _ (some words)) => decide (words.length = 64)
  | .snapshot _ _ _ words => decide (words.length = 64)
  | _ => true

/-- The integrity check of R105, but for the cut and the discard mark: at least 8 bytes, and the CRC-32 of all but
the last four equal to those four. -/
def integrityHolds (bytes : List Byte) : Bool :=
  decide (8 ≤ bytes.length) &&
    decide ((crc32 (bytes.take (bytes.length - 4))).toNat = leNat (bytes.drop (bytes.length - 4)))

/-- The kind check of R105. -/
def kindHolds (bytes : List Byte) : Bool := decide (1 ≤ fieldAt bytes 0 1) && decide (fieldAt bytes 0 1 ≤ 10)

/-- The length check of R105, over the lengths of R103. -/
def lengthHolds (bytes : List Byte) : Bool :=
  match fieldAt bytes 0 1 with
  | 1 => decide (bytes.length = 296)
  | 2 => decide (1 ≤ fieldAt bytes 7 1) && decide (fieldAt bytes 7 1 ≤ 16)
          && decide (bytes.length = 16 + 4 * fieldAt bytes 7 1)
  | 3 => decide (bytes.length = 20)
  | 4 => decide (bytes.length = 16) || decide (bytes.length = 272)
  | 5 => decide (bytes.length = 16)
  | 6 => decide (bytes.length = 12)
  | 7 => decide (bytes.length = 8)
  | 8 => decide (bytes.length = 272)
  | 9 => decide (bytes.length = 8)
  | 10 => decide (bytes.length = 8)
  | _ => false

/-- The HELLO that content bytes hold; reserved bytes are not examined (R186). -/
def readHello (c : List Byte) : HelloBody :=
  { nodeId := BitVec.ofNat 16 (fieldAt c 0x03 2)
    heard := if flagAt c 0x07 0 then some (BitVec.ofNat 16 (fieldAt c 0x05 2)) else none
    joined := flagAt c 0x07 1
    content :=
      { fresh := flagAt c 0x07 2
        sweepPeriod := BitVec.ofNat 16 (fieldAt c 0x08 2)
        classMap := Vector.ofFn fun r => BitVec.ofNat 2 (fieldAt c (0x0C + r.val / 4) 1 / 4 ^ (r.val % 4))
        claims := Vector.ofFn fun r => flagAt c (0x1C + r.val / 8) (r.val % 8)
        generations := Vector.ofFn fun r => BitVec.ofNat 32 (fieldAt c (0x24 + 4 * r.val) 4) } }

/-- What a frame's content bytes hold, by their kind code (11.7); reserved bytes and unnamed flag bits are not examined
(R186). -/
def readBody (c : List Byte) : FrameBody :=
  match fieldAt c 0 1 with
  | 1 => .hello (readHello c)
  | 2 => .sequenced (byteAt c 3) (byteAt c 4)
          (.update (byteAt c 5) (byteAt c 6) (bytesWords (c.drop 0x0C)) (flagAt c 8 0) (flagAt c 8 1) (flagAt c 8 2))
  | 3 => .sequenced (byteAt c 3) (byteAt c 4)
          (.ownReq (byteAt c 5) (BitVec.ofNat 32 (fieldAt c 8 4)) (flagAt c 6 0))
  | 4 => .sequenced (byteAt c 3) (byteAt c 4)
          (.ownGrant (byteAt c 5) (BitVec.ofNat 32 (fieldAt c 8 4))
            (if c.length = 12 then none else some (bytesWords (c.drop 0x0C))))
  | 5 => .sequenced (byteAt c 3) (byteAt c 4) (.ownDeny (byteAt c 5) (byteAt c 6))
  | 6 => .sequenced (byteAt c 3) (byteAt c 4) .syncDone
  | 7 => .ack (byteAt c 3)
  | 8 => .snapshot (byteAt c 3) (BitVec.ofNat 16 (fieldAt c 4 2)) (BitVec.ofNat 32 (fieldAt c 8 4))
          (bytesWords (c.drop 0x0C))
  | 9 => .idle
  | _ => .bye

/-- The framer's checks of the bytes between the delimiters (R105): the frame, or none where a check fails. -/
def checkFrame (bytes : List Byte) : Option Frame :=
  if integrityHolds bytes && kindHolds bytes && lengthHolds bytes then
    let c := bytes.take (bytes.length - 4)
    some { epoch := BitVec.ofNat 16 (fieldAt c 1 2), body := readBody c }
  else none

/-! ## The setup block (11.3, R177) -/

/-- The descriptor byte of a region. -/
def descriptorAt (b : List Byte) (r : Nat) : Nat := fieldAt b (0x40 + r) 1

/-- Every reserved field and reserved flag is zero (R177, check 2). -/
def setupReservedZero (b : List Byte) : Bool :=
  decide (fieldAt b 0x01 1 < 2) && decide (fieldAt b 0x0E 2 = 0) && decide (fieldAt b 0x38 8 = 0)
    && (List.range 64).all fun r => decide (descriptorAt b r < 8)

/-- A ring size is a power of two from 16 to 4,096 (R138, R177). -/
def ringSizeValid (n : Nat) : Bool := [16, 32, 64, 128, 256, 512, 1024, 2048, 4096].contains n

/-- The overflow policy a code names (11.3). -/
def Policy.ofCode : Nat → Option Policy
  | 0 => some .dropNew | 1 => some .overwriteOld | 2 => some .freeze | _ => none

/-- Some descriptor has class CYCLIC (R177, check 10). -/
def setupHasCyclic (b : List Byte) : Bool := (List.range 64).any fun r => descriptorAt b r % 4 == 2

/-- The parameters a setup block holds, read without any check (11.3). -/
def readSetup (b : List Byte) (policy : Policy) : SetupParams :=
  { autoLink := flagAt b 0x01 0
    nodeId := BitVec.ofNat 16 (fieldAt b 0x02 2)
    window := fieldAt b 0x04 1
    ackTimeout := fieldAt b 0x05 1
    retryLimit := fieldAt b 0x06 1
    helloInterval := fieldAt b 0x07 1
    sweepPeriod := fieldAt b 0x08 2
    staleLimit := fieldAt b 0x0A 1
    policy := policy
    deferralLimit := fieldAt b 0x0C 2
    urgentSize := fieldAt b 0x10 2
    normalSize := fieldAt b 0x12 2
    completionSize := fieldAt b 0x14 2
    notifySize := fieldAt b 0x16 2
    urgentBase := BitVec.ofNat 64 (fieldAt b 0x18 8)
    normalBase := BitVec.ofNat 64 (fieldAt b 0x20 8)
    completionBase := BitVec.ofNat 64 (fieldAt b 0x28 8)
    notifyBase := BitVec.ofNat 64 (fieldAt b 0x30 8)
    descriptors := Vector.ofFn fun r =>
      ((RegionClass.ofCode (descriptorAt b r.val % 4)).getD .off, (descriptorAt b r.val).testBit 2) }

/-- The validation of R177: the first check that fails gives its code. -/
def validateSetup (b : List Byte) : Except SetupError SetupParams :=
  if fieldAt b 0x00 1 ≠ 1 then .error .version
  else if !setupReservedZero b then .error .reserved
  else if ([0x18, 0x20, 0x28, 0x30].any fun o => fieldAt b o 8 % 64 != 0) then .error .ringBase
  else if ([0x10, 0x12, 0x14, 0x16].any fun o => !ringSizeValid (fieldAt b o 2)) then .error .ringSize
  else if fieldAt b 0x02 2 < 1 ∨ 65534 < fieldAt b 0x02 2 then .error .nodeId
  else if fieldAt b 0x04 1 < 1 ∨ 32 < fieldAt b 0x04 1 then .error .window
  else if fieldAt b 0x05 1 < 1 then .error .ackTimeout
  else if fieldAt b 0x06 1 < 1 ∨ 15 < fieldAt b 0x06 1 then .error .retryLimit
  else if fieldAt b 0x07 1 < 1 then .error .helloInterval
  else if 1000 < fieldAt b 0x08 2 ∨ (fieldAt b 0x08 2 = 0 ∧ setupHasCyclic b = true) then .error .sweepPeriod
  else match Policy.ofCode (fieldAt b 0x0B 1) with
    | none => .error .policy
    | some policy =>
      if (List.range 64).all (fun r => decide (descriptorAt b r % 4 < 3)) then .ok (readSetup b policy)
      else .error .region

/-! ## Completion and notification records (11.5, 11.6, R187) -/

/-- The 16 bytes of a completion record with the ring's phase bit (11.5). -/
def Completion.bytes (c : Completion) (phase : Bool) : List Byte :=
  leBytes 2 c.tag.toNat
    ++ [BitVec.ofNat 8 c.status.code, BitVec.ofNat 8 (bit phase + 2 * (match c.ring with | .urgent => 0 | .normal => 1))]
    ++ leBytes 4 c.info.w0.toNat ++ leBytes 4 c.info.w1.toNat ++ leBytes 4 c.info.w2.toNat

/-- Event codes (R163). -/
def Event.code : Event → Nat
  | .linkUp => 1 | .linkLost _ => 2 | .linkRejected _ => 3 | .ownershipArrived _ _ => 4 | .ownershipLost _ => 5
  | .ownershipKept _ => 6 | .deferralExpired _ => 7 | .cyclicStale _ => 8 | .cyclicFresh _ => 9 | .sweepOverrun _ => 10
  | .protocolError _ _ => 11 | .notifyResumed _ => 12

/-- The parameter byte of an event (11.6). -/
def Event.paramByte : Event → Nat
  | .linkLost reason => reason.code
  | .linkRejected reason => reason.code
  | .ownershipArrived _ viaGrant => if viaGrant then 1 else 2
  | .protocolError kind _ => kind.code
  | _ => 0

/-- The region field of an event: FFFFh for none (11.6). -/
def Event.regionField : Event → Nat
  | .ownershipArrived r _ => r.val
  | .ownershipLost r => r.val
  | .ownershipKept r => r.val
  | .deferralExpired r => r.val
  | .cyclicStale r => r.val
  | .cyclicFresh r => r.val
  | .protocolError _ (some b) => b.toNat
  | _ => 0xFFFF

/-- The parameter word of an event (11.6). -/
def Event.paramWord : Event → Nat
  | .sweepOverrun count => count.toNat
  | .notifyResumed lost => lost
  | _ => 0

/-- Bytes 06h to 0Fh of a notification record (11.6). -/
def Submission.bytes : Submission → List Byte
  | .watch slot region offset value count source =>
    [BitVec.ofNat 8 (match source with | .localHost => 0 | .peer => 1), BitVec.ofNat 8 slot.val]
      ++ leBytes 2 region.val ++ [BitVec.ofNat 8 offset, BitVec.ofNat 8 count] ++ leBytes 4 value.toNat
  | .event e =>
    [BitVec.ofNat 8 e.code, BitVec.ofNat 8 e.paramByte] ++ leBytes 2 e.regionField ++ [0, 0] ++ leBytes 4 e.paramWord

/-- The 16 bytes of a notification record with the ring's phase bit (11.6). -/
def NotifyRecord.bytes (r : NotifyRecord) (phase : Bool) : List Byte :=
  leBytes 2 r.number.toNat
    ++ [BitVec.ofNat 8 (bit phase + 2 * (match r.body with | .watch .. => 0 | .event _ => 1)), 0]
    ++ leBytes 2 r.lost ++ r.body.bytes

end Sys2Proof.Machine
end

