-- ==== Sys2Proof/Machine/Flags.lean ====
section
/-! DEFINITION. Statistics counters, register reads, STATUS, the region summary and the information words, and the pins:
every value the part computes from its state for the outside to read. -/

namespace Sys2Proof.Machine

/-! ## Parameters and regions -/

/-- The setup parameters in force (R178). -/
def State.params (s : State) : SetupParams := s.dev.setup.getD .unloaded

/-- A region's entry (R8). -/
def State.region (s : State) (r : Fin 64) : RegionEntry := s.regions[r]

/-- Replaces a region's entry. -/
def State.setRegion (s : State) (r : Fin 64) (e : RegionEntry) : State := { s with regions := s.regions.set r e }

/-- Changes every region's entry by its number and its value. -/
def State.mapRegions (s : State) (f : Fin 64 → RegionEntry → RegionEntry) : State :=
  { s with regions := Vector.ofFn fun r => f r (s.region r) }

/-- The watched item: at least one armed entry of the Watch Table names the region (R17, R157). -/
def State.watched (s : State) (r : Fin 64) : Bool := s.watch.table.toList.any fun e => e.armed && e.spec.region == r

/-! ## Statistics counters (R183) -/

/-- The word of the statistics copy a counter stands in (R133). -/
def Counter.index : Counter → Fin 12
  | .framesSent => 0 | .framesReceived => 1 | .framesBad => 2 | .retransmitRounds => 3 | .duplicates => 4
  | .outOfOrder => 5 | .epochMismatch => 6 | .snapshotsStale => 7 | .protocolErrors => 8 | .sweepOverruns => 9
  | .notifyLost => 10 | .linkLosses => 11

/-- One more, stopping at 4,294,967,295 (R183). -/
def saturatingSucc (w : Word) : Word := if w = 4294967295#32 then w else w + 1

/-- A counter's value. -/
def State.counter (s : State) (c : Counter) : Word := s.dev.counters[c.index]

/-- One occurrence of a counter's cause (R183). -/
def State.raise (s : State) (c : Counter) : State :=
  { s with dev.counters := s.dev.counters.set c.index (saturatingSucc (s.counter c)) }

/-! ## The register window (R172, R173, 11.2) -/

/-- STATUS as it stands (R173, 11.2). -/
def State.statusWord (s : State) : Word :=
  BitVec.ofNat 32 (s.dev.state.code + 16 * s.link.state.code + 256 * s.dev.faultCode.code
    + 65536 * s.dev.setupError.code + 16777216 * bit s.notif.frozen + 33554432 * bit s.dev.controlRefused)

/-- What a whole read of the register at an offset returns; an offset that names no register reads 0 (R172). -/
def State.registerValue (s : State) (offset : Nat) : Word :=
  match offset with
  | 0x000 => Config.ident
  | 0x008 => s.statusWord
  | 0x00C => s.dev.setupLo
  | 0x010 => s.dev.setupHi
  | _ => 0

/-- A read of `count` bytes at a byte offset: the bytes of the registers it covers. A part held in cold reset does not
answer (R172, R175). A read changes no state. -/
def State.readWindow (s : State) (offset count : Nat) : Option (List Byte) :=
  if s.dev.perst then none
  else some ((List.range count).map fun k =>
    BitVec.ofNat 8 ((s.registerValue ((offset + k) / 4 * 4)).toNat / 256 ^ ((offset + k) % 4)))

/-- The LINK_UP pin: high while the link is UP and the device is not FAULTED (R81). While PERST_N is held asserted it
follows the link state from before, since R175 gives the blocks their values at the release and no level of the pin
until then (DESIGN CHOICE, log entry 44). -/
def State.linkUpPin (s : State) : Bool := decide (s.link.state = .up) && decide (s.dev.state ≠ .faulted)

/-! ## Information words (R119, 11.5) -/

/-- Zero in every word. -/
def Info.zero : Info := { w0 := 0, w1 := 0, w2 := 0 }

/-- Word 2 of the region summary (R17, 11.5). -/
def State.summaryFlags (s : State) (r : Fin 64) : Word :=
  BitVec.ofNat 32 ((s.region r).cls.code + 16 * (s.region r).state.code + 256 * bit (s.region r).held
    + 512 * bit (s.region r).pending.isSome + 1024 * bit (s.region r).stale + 2048 * bit (s.watched r)
    + 65536 * ((s.region r).stagingCount % 64))

/-- The region summary in words 1 and 2, with a word 0 of the command's own (11.5). -/
def State.summary (s : State) (r : Fin 64) (w0 : Word := 0) : Info :=
  { w0 := w0, w1 := (s.region r).generation, w2 := s.summaryFlags r }

/-- A WRITE's words: the number committed, and generation and state at its step (R119). -/
def State.writeInfo (s : State) (r : Fin 64) (committed : Nat) : Info :=
  { w0 := BitVec.ofNat 32 committed, w1 := (s.region r).generation,
    w2 := BitVec.ofNat 32 (16 * (s.region r).state.code) }

/-- A READ's words: the number delivered, the capture generation and the capture stale flag (R119). -/
def Capture.info (c : Capture) (delivered : Nat) : Info :=
  { w0 := BitVec.ofNat 32 delivered, w1 := c.generation, w2 := BitVec.ofNat 32 (1024 * bit c.stale) }

/-- A FENCE's words: the mark and whether one was recorded (R119). -/
def fenceInfo (mark : Option (BitVec 8)) : Info :=
  match mark with
  | none => .zero
  | some m => { w0 := BitVec.ofNat 32 (m.toNat + 256), w1 := 0, w2 := 0 }

/-- A STATS's words: the number of counter words written and whether the counters were cleared (R119). -/
def statsInfo (written : Nat) (cleared : Bool) : Info :=
  { w0 := BitVec.ofNat 32 written, w1 := BitVec.ofNat 32 (bit cleared), w2 := 0 }

/-- A LINK_UP's or LINK_DOWN's words: the link state after the command (R82, R83). -/
def State.linkInfo (s : State) : Info := { w0 := BitVec.ofNat 32 s.link.state.code, w1 := 0, w2 := 0 }

/-- A WATCH_SET's or WATCH_CLEAR's words: the slot and whether it was armed before (R159, R160). -/
def State.watchInfo (s : State) (slot : Fin 16) : Info :=
  { w0 := BitVec.ofNat 32 (slot.val + 256 * bit s.watch.table[slot].armed), w1 := 0, w2 := 0 }

end Sys2Proof.Machine
end

