-- ==== Sys2Proof/Machine/Operands.lean ====
section
/-! DEFINITION. The command record's operand forms and their checks at admission (R115, R116, R14, R158, 11.4). -/

namespace Sys2Proof.Machine

/-- The bytes of a record from `offset` on, `n` of them, are zero. -/
def zeroBytes (b : List Byte) (offset n : Nat) : Bool := decide (fieldAt b offset n = 0)

/-- No flag outside the named low bits is set (R115). -/
def flagsWithin (b : List Byte) (limit : Nat) : Bool := decide (fieldAt b 0x01 1 < limit)

/-- Region, offset and count are reserved for the command and zero. -/
def noRange (b : List Byte) : Bool := zeroBytes b 0x04 3

/-- Offset and count are reserved for the command and zero. -/
def regionOnly (b : List Byte) : Bool := zeroBytes b 0x05 2

/-- The operand area is reserved for the command and zero. -/
def noOperands (b : List Byte) : Bool := zeroBytes b 0x10 16

/-- A WRITE with INLINE set (11.4). -/
def inlineWrite (b : List Byte) : Bool := flagAt b 0x01 0

/-- Stage 1 of R116: the opcode is one of the fifteen, and every reserved field, flag and operand byte is zero. -/
def stage1 (b : List Byte) : Bool :=
  zeroBytes b 0x07 9 &&
  match fieldAt b 0x00 1 with
  | 1 => flagsWithin b 1 && noRange b && noOperands b
  | 2 => flagsWithin b 4 && (inlineWrite b || zeroBytes b 0x18 8)
  | 3 => flagsWithin b 1 && zeroBytes b 0x18 8
  | 4 => flagsWithin b 1 && noRange b && noOperands b
  | 5 => flagsWithin b 2 && noRange b && zeroBytes b 0x18 8
  | 6 => flagsWithin b 1 && regionOnly b && noOperands b
  | 7 => flagsWithin b 2 && regionOnly b && noOperands b
  | 8 => flagsWithin b 1 && regionOnly b && noOperands b
  | 9 => flagsWithin b 1 && regionOnly b && noOperands b
  | 10 => flagsWithin b 1 && regionOnly b && noOperands b
  | 11 => flagsWithin b 2 && zeroBytes b 0x06 1 && noOperands b
  | 12 => flagsWithin b 8 && zeroBytes b 0x19 7
  | 13 => flagsWithin b 1 && noRange b && zeroBytes b 0x10 8 && zeroBytes b 0x19 7
  | 14 => flagsWithin b 1 && noRange b && noOperands b
  | 15 => flagsWithin b 1 && noRange b && noOperands b
  | _ => false

/-- The range checks of R116 on region, offset and count. -/
def rangeHolds (b : List Byte) : Bool :=
  decide (fieldAt b 0x04 1 < 64) && decide (fieldAt b 0x05 1 < 64)
    && decide (1 ≤ fieldAt b 0x06 1) && decide (fieldAt b 0x06 1 ≤ 64)
    && decide (fieldAt b 0x05 1 + fieldAt b 0x06 1 ≤ 64)

/-- The buffer address is a multiple of 4 and its transfer stays inside the 64-bit address space (R116). -/
def bufferHolds (b : List Byte) (bytes : Nat) : Bool :=
  decide (fieldAt b 0x10 8 % 4 = 0) && decide (fieldAt b 0x10 8 + bytes ≤ 2 ^ 64)

/-- In MATCH mode the value has no one bit where the mask has a zero bit (R158). -/
def matchPossible (b : List Byte) : Bool :=
  !flagAt b 0x01 0
    || decide (BitVec.ofNat 32 (fieldAt b 0x14 4) &&& ~~~ BitVec.ofNat 32 (fieldAt b 0x10 4) = 0#32)

/-- Stage 2 of R116, each check on a field the command uses; `sweepPeriod` is P of the setup block (R14). -/
def stage2 (sweepPeriod : Nat) (b : List Byte) : Bool :=
  match fieldAt b 0x00 1 with
  | 2 => rangeHolds b
          && (if inlineWrite b then decide (fieldAt b 0x06 1 ≤ 4) else bufferHolds b (4 * fieldAt b 0x06 1))
  | 3 => rangeHolds b && bufferHolds b (4 * fieldAt b 0x06 1)
  | 5 => bufferHolds b 48
  | 6 | 7 | 8 | 9 | 10 => decide (fieldAt b 0x04 1 < 64)
  | 11 => decide (fieldAt b 0x04 1 < 64) && decide (fieldAt b 0x05 1 < 3)
          && !(fieldAt b 0x05 1 == 2 && sweepPeriod == 0)
  | 12 => rangeHolds b && decide (fieldAt b 0x18 1 < 16) && matchPossible b
  | 13 => decide (fieldAt b 0x18 1 < 16)
  | _ => true

/-- The region a record names, for records that passed stage 2. -/
def recordRegion (b : List Byte) : Fin 64 := Fin.ofNat 64 (fieldAt b 0x04 1)

/-- Stage 3 of R116: the commands that are refused for a region of class OFF (R11). -/
def needsMirroredRegion (b : List Byte) : Bool := [2, 3, 7, 8, 9, 10, 12].contains (fieldAt b 0x00 1)

/-- The four inline words of a record (11.4). -/
def inlineWords (b : List Byte) : List Word := bytesWords ((b.drop 0x10).take 16)

/-- The command a record that passed its checks holds (R115, 11.4). -/
def readCommand (b : List Byte) : Command :=
  let region := recordRegion b
  let offset := fieldAt b 0x05 1
  let count := fieldAt b 0x06 1
  let addr : Addr := BitVec.ofNat 64 (fieldAt b 0x10 8)
  match fieldAt b 0x00 1 with
  | 2 => .write region offset count
          (if inlineWrite b then .inline ((inlineWords b).take count) else .buffer addr) (flagAt b 0x01 1)
  | 3 => .read region offset count addr
  | 4 => .fence
  | 5 => .stats addr (flagAt b 0x01 0)
  | 6 => .queryRegion region
  | 7 => .claim region (flagAt b 0x01 0)
  | 8 => .release region
  | 9 => .hold region
  | 10 => .unhold region
  | 11 => .setClass region ((RegionClass.ofCode offset).getD .off) (flagAt b 0x01 0)
  | 12 => .watchSet (Fin.ofNat 16 (fieldAt b 0x18 1))
          { region := region, first := offset, last := offset + count - 1, isMatch := flagAt b 0x01 0,
            both := flagAt b 0x01 1, oneShot := flagAt b 0x01 2,
            mask := BitVec.ofNat 32 (fieldAt b 0x10 4), value := BitVec.ofNat 32 (fieldAt b 0x14 4) }
  | 13 => .watchClear (Fin.ofNat 16 (fieldAt b 0x18 1))
  | 14 => .linkUp
  | 15 => .linkDown
  | _ => .nop

/-- A record's tag (11.4). -/
def recordTag (b : List Byte) : BitVec 16 := BitVec.ofNat 16 (fieldAt b 0x02 2)

/-- The operand checks of R116, against the Region Table as it stands: the first stage that fails decides the status. -/
def State.checkRecord (s : State) (b : List Byte) : Except Status Command :=
  if !stage1 b then .error .badCommand
  else if !stage2 s.params.sweepPeriod b then .error .badRange
  else if needsMirroredRegion b && decide ((s.region (recordRegion b)).cls = .off) then .error .regionOff
  else .ok (readCommand b)

end Sys2Proof.Machine
end

