-- ==== Sys2Proof/Machine/Ops.lean ====
section
/-! DEFINITION. The operations the commands share: free orders, submissions, completions and resources, ring
arithmetic, entry to FAULTED, control frames and the grant step. -/

namespace Sys2Proof.Machine

/-! ## Device states -/

/-- The device state is RUNNING or STOPPING: the states in which faults are taken (R180), completions posted (R150)
and frames received (R106). -/
def State.working (s : State) : Bool := decide (s.dev.state = .running) || decide (s.dev.state = .stopping)

/-- The rest of a step is taken unless the part has entered FAULTED inside it: every block then stops where it stands
(R180; log entry 23). -/
def State.andThen (s : State) (f : State → State) : State := if s.dev.state = .faulted then s else f s

/-- A command of the block on a part that is not held in cold reset; a held part takes nothing (R175). -/
def live (f : State → State) (s : State) : Host.Outcome State Fault Refusal := .next (if s.dev.perst then s else f s)

/-! ## Free orders (log entries 11 to 14) -/

/-- Some order of a list's items, each next one picked by the free value; `fuel` is the list's length. -/
def freeOrderAux {α : Type} : Nat → Nat → List α → List α
  | 0, _, l => l
  | _ + 1, _, [] => []
  | _ + 1, _, [a] => [a]
  | fuel + 1, choice, a :: b :: rest =>
    match (a :: b :: rest)[Config.freeIndex choice (rest.length + 2) % (rest.length + 2)]? with
    | some x =>
      x :: freeOrderAux fuel choice
        ((a :: b :: rest).eraseIdx (Config.freeIndex choice (rest.length + 2) % (rest.length + 2)))
    | none => a :: b :: rest

/-- The items in some order: any order, for all the model says. -/
def freeOrder {α : Type} (choice : Nat) (l : List α) : List α := freeOrderAux l.length choice l

/-- The number of the choice just taken is used up, where there was a choice. -/
def State.chosen (s : State) (items : Nat) : State := if 2 ≤ items then { s with choices := s.choices + 1 } else s

/-! ## Submissions (R164) -/

/-- A submission joins the tail of the Notification Poster's queue. -/
def State.submit (s : State) (x : Submission) : State := { s with notif.queue := s.notif.queue ++ [x] }

/-- An event is submitted. -/
def State.event (s : State) (e : Event) : State := s.submit (.event e)

/-- A protocol error: the counter rises and the event names the kind and the region (R21, R61, R93). -/
def State.protocolError (s : State) (kind : ProtocolKind) (region : Option Byte) : State :=
  (s.raise .protocolErrors).event (.protocolError kind region)

/-! ## Rings (R138 to R140) -/

/-- A submission ring's view. -/
def State.subRing (s : State) : Ring → SubRing
  | .urgent => s.rings.urgent
  | .normal => s.rings.normal

/-- Replaces a submission ring's view. -/
def State.setSubRing (s : State) (ring : Ring) (v : SubRing) : State :=
  match ring with
  | .urgent => { s with rings.urgent := v }
  | .normal => { s with rings.normal := v }

/-- A submission ring's size. -/
def State.ringSize (s : State) : Ring → Nat
  | .urgent => s.params.urgentSize
  | .normal => s.params.normalSize

/-- A submission ring's base address. -/
def State.ringBase (s : State) : Ring → Addr
  | .urgent => s.params.urgentBase
  | .normal => s.params.normalBase

/-- (a - b) modulo a ring's size. -/
def ringDistance (a b size : Nat) : Nat := (a + (size - b % size)) % size

/-- The next slot number (R138). -/
def nextSlot (i size : Nat) : Nat := (i + 1) % size

/-- The address of a slot: the base plus the slot number times the record size (R138). Where that passes the end of the
64-bit address space, which no check of R177 excludes, it wraps modulo 2^64 (DESIGN CHOICE, log entry 37). -/
def slotAddr (base : Addr) (slot recordSize : Nat) : Addr := base + BitVec.ofNat 64 (slot * recordSize)

/-- Records pending on a submission ring (R139). -/
def State.pendingCount (s : State) (ring : Ring) : Nat :=
  ringDistance (s.subRing ring).producer (s.subRing ring).fetch (s.ringSize ring)

/-- Unconsumed completion records (R140). -/
def State.unconsumed (s : State) : Nat := ringDistance s.rings.post s.rings.consumer s.params.completionSize

/-- A completion slot can be reserved (R140). -/
def State.canReserve (s : State) : Bool := decide (s.unconsumed + s.rings.reserved + 1 < s.params.completionSize)

/-- A fetch of the head record begins where R145 has one begin: RUNNING, a pending record, no fetched copy, no fetch in
progress. -/
def State.beginFetch (s : State) (ring : Ring) : State :=
  if s.dev.state = .running ∧ 0 < s.pendingCount ring ∧ (s.subRing ring).copy = none ∧ (s.subRing ring).fetching = false
  then
    { s.setSubRing ring { s.subRing ring with fetching := true } with
      emitted := .hostRead (slotAddr (s.ringBase ring) (s.subRing ring).fetch 32) 32 :: s.emitted }
  else s

/-- The waiting mark of a ring whose head waits for a resource is cleared as that resource is freed (R147). -/
def SubRing.offer (v : SubRing) (r : Resource) : SubRing := if v.waiting = some r then { v with waiting := none } else v

/-- A freed resource clears the mark of every ring that waits for it (R147). -/
def State.offerResource (s : State) (r : Resource) : State :=
  { s with rings.urgent := s.rings.urgent.offer r, rings.normal := s.rings.normal.offer r }

/-! ## Entries, slots and buffers (R117, R123, R124, R149) -/

/-- The lowest-numbered free place (R149; log entry 22). -/
def firstFree {α : Type} {n : Nat} (v : Vector (Option α) n) : Option (Fin n) :=
  (List.finRange n).find? fun i => v[i].isNone

/-- An entry of the Outstanding Command Table. -/
def State.entry (s : State) (i : Fin 32) : Option OctEntry := s.cmd.oct[i]

/-- Replaces an entry in use. -/
def State.setEntry (s : State) (i : Fin 32) (e : OctEntry) : State := { s with cmd.oct := s.cmd.oct.set i (some e) }

/-- A staging slot becomes free (R123). -/
def State.freeStaging (s : State) (slot : Option (Fin 8)) : State :=
  match slot with
  | none => s
  | some j => ({ s with cmd.staging := s.cmd.staging.set j none }).offerResource .stagingSlot

/-- A read buffer becomes free (R124). -/
def State.freeBuffer (s : State) (buffer : Option (Fin 4)) : State :=
  match buffer with
  | none => s
  | some j => ({ s with cmd.buffers := s.cmd.buffers.set j none }).offerResource .readBuffer

/-- The completion of an entry in use is requested: it joins the tail of the posting queue, and the entry stays in use
until the record has been written (R121, R149, R150). The entry gives up its slot, its buffer and its fence mark (R123,
R124, R137). -/
def State.requestCompletion (s : State) (i : Fin 32) (status : Status) (info : Info) : State :=
  match s.entry i with
  | none => s
  | some e =>
    { s.setEntry i { e with phase := .completed, staging := none, buffer := none, mark := none } with
      rings.posting := s.rings.posting ++
        [{ ring := e.ring, tag := e.tag, status := status, info := info, entry := some i }] }

/-- The command at the head of the Execution Queue leaves it. -/
def State.leaveHead (s : State) : State := { s with cmd.queue := s.cmd.queue.tail }

/-- A command takes its effect and completes in one step (R120). -/
def State.finishHead (s : State) (i : Fin 32) (status : Status) (info : Info) : State :=
  (s.requestCompletion i status info).leaveHead

/-- A command has taken its effect, leaves the head and awaits an event (R121). -/
def State.awaitEvent (s : State) (i : Fin 32) (e : OctEntry) : State :=
  (s.setEntry i { e with phase := .awaitingEvent }).leaveHead

/-- The entries that await their event and meet a condition on their command, in entry order. -/
def State.awaiting (s : State) (p : OctEntry → Bool) : List (Fin 32) :=
  (List.finRange 32).filter fun i =>
    match s.entry i with
    | some e => decide (e.phase = .awaitingEvent) && p e
    | none => false

/-! ## Entry to FAULTED (R180) -/

/-- A pending request's deferral timer stops without expiry (R31). -/
def RegionEntry.stopDeferral (e : RegionEntry) : RegionEntry :=
  { e with pending := e.pending.map fun q => { q with timer := none } }

/-- The link is in one of the states in which entry to FAULTED hands a BYE (R100). -/
def LinkState.hasPeer : LinkState → Bool
  | .joining => true
  | .syncing => true
  | .up => true
  | _ => false

/-- A device fault is reported. In RUNNING and STOPPING the part enters FAULTED in one step: every block stops where it
stands (R155, R136, R31, R43, R64, R79, R100, R113, R162, R170) and the fault MSI is sent once. In any other state the
report is dropped (R180). With the link OFF, SEEKING or REJECTED a BYE that still waits from an earlier loss is neither
replaced nor dropped (R107), and is not sent while the part is FAULTED (R81; DEDUCED, log entry 39). The two stop reports
become not received (DESIGN CHOICE, log entry 45). -/
def State.enterFaulted (s : State) (code : FaultCode) : State :=
  if s.working then
    { s with
      dev.state := .faulted
      dev.faultCode := code
      dev.rmReport := false
      dev.npReport := false
      regions := Vector.ofFn fun r => (s.region r).stopDeferral
      rings.urgent.fetching := false
      rings.normal.fetching := false
      stream.timer := none
      sweep.timer := none
      sweep.offered := none
      link.helloTimer := none
      link.silenceTimer := none
      link.confirmDue := false
      framer.assembly := none
      framer.heldFrames := []
      framer.bye := if s.link.state.hasPeer then some s.link.epoch else s.framer.bye
      framer.hello := none
      framer.quietTimer := none
      framer.idleDue := false
      emitted := .msi 2 :: s.emitted }
  else s

/-! ## The Transmit List (R44 to R48) -/

/-- The link is SYNCING or UP: the ordered stream runs. -/
def State.streaming (s : State) : Bool := decide (s.link.state = .syncing) || decide (s.link.state = .up)

/-- The content is an UPDATE. -/
def SeqContent.isUpdate : SeqContent → Bool
  | .update .. => true
  | _ => false

/-- UPDATE frames in the Transmit List (R45). -/
def State.updateCount (s : State) : Nat := s.stream.list.countP fun t => t.content.isUpdate

/-- Sent frames in the Transmit List (R44). -/
def State.sentCount (s : State) : Nat := s.stream.list.countP fun t => t.sent

/-- A frame enters the Transmit List, behind every frame there, with the next sequence number (R48). -/
def State.enqueue (s : State) (content : SeqContent) (owner : Option (Fin 32)) : State :=
  { s with
    stream.list := s.stream.list ++
      [{ content := content, seq := s.stream.nextSeq, sent := false, resend := false, owner := owner }]
    stream.nextSeq := s.stream.nextSeq + 1 }

/-- The content is a hand-over frame for a region (R22). -/
def SeqContent.handsOver (c : SeqContent) (r : Fin 64) : Bool :=
  match c with
  | .ownReq b _ _ => b == regionByte r
  | .ownGrant b _ _ => b == regionByte r
  | .ownDeny b _ => b == regionByte r
  | _ => false

/-- A hand-over frame of this part is outstanding for the region (R22). -/
def State.outstanding (s : State) (r : Fin 64) : Bool := s.stream.list.any fun t => t.content.handsOver r

/-- An OWN_DENY enters the Transmit List (R33, R35, R36). -/
def State.deny (s : State) (r : Fin 64) (reason : DenyReason) : State :=
  s.enqueue (.ownDeny (regionByte r) (BitVec.ofNat 8 reason.code)) none

/-! ## Generations and the grant step (R19, R77, R32) -/

/-- The next generation; a generation does not wrap, GEN_LIMIT stops it (00, Conventions). -/
def nextGeneration (g : BitVec 32) : BitVec 32 := if g = Config.genLimit then g else g + 1

/-- A region's generation is set. Where it changes, last sweep applied becomes none and the receive age 0 (R77). -/
def RegionEntry.withGeneration (e : RegionEntry) (g : BitVec 32) : RegionEntry :=
  if g = e.generation then e else { e with generation := g, lastSweep := none, age := 0 }

/-- Parts 2 to 4 of the grant step, the content in hand (R32). -/
def State.grantWith (s : State) (r : Fin 64) (content : Option (List Word)) : State :=
  (s.enqueue (.ownGrant (regionByte r) (nextGeneration (s.region r).generation) content) none).setRegion r
    { s.region r with state := .granting, held := false, pending := none }

/-- The grant step hands a region in HERE to the peer (R32). A CYCLIC region's words are captured first; a parity error
stops the step there, and the part enters FAULTED. -/
def State.grantStep (s : State) (r : Fin 64) : State :=
  match (s.region r).cls with
  | .cyclic =>
    match s.capture r 0 64 with
    | some words => s.grantWith r (some words)
    | none => s.enterFaulted .mirrorParity
  | _ => s.grantWith r none

/-- A WRITE has lowered the staging count: where it is 0, the region HERE and not held, and a peer request pending,
the request is granted (R29, R34). -/
def State.grantIfDue (s : State) (r : Fin 64) : State :=
  if (s.region r).stagingCount = 0 ∧ (s.region r).state = .here ∧ (s.region r).held = false
      ∧ (s.region r).pending.isSome = true
  then s.grantStep r else s

end Sys2Proof.Machine
end

