-- ==== Sys2Proof/Machine/Engine.lean ====
section
/-! DEFINITION. Shared operations of the Command Engine and the refresh cursor: the effect of a WRITE, batches of UPDATE
frames, and the presentation of waiting batches (R46, R47, R92, R125 to R127). -/

namespace Sys2Proof.Machine

/-! ## The head of the Execution Queue (R120) -/

/-- The command at the head takes its effect while the device is RUNNING and its entry still queued; otherwise nothing
happens (R120; log entry 3). -/
def State.atHead (s : State) (f : Fin 32 → OctEntry → State) : State :=
  if s.dev.state = .running then
    match s.cmd.queue with
    | [] => s
    | i :: _ =>
      match s.entry i with
      | none => s
      | some e => if e.phase = .queued then f i e else s
  else s

/-! ## The batch of a WRITE (R47) -/

/-- The frames of a WRITE's batch: 16 words in each frame but the last, which has last_of_command set (R47). -/
def writeBatch : Nat → Fin 64 → Nat → List Word → List SeqContent
  | 0, _, _, _ => []
  | fuel + 1, r, offset, words =>
    if words = [] then []
    else if words.length ≤ Config.updateWords then
      [.update (regionByte r) (BitVec.ofNat 8 offset) words true false false]
    else
      .update (regionByte r) (BitVec.ofNat 8 offset) (words.take Config.updateWords) false false false
        :: writeBatch fuel r (offset + Config.updateWords) (words.drop Config.updateWords)

/-- One frame of a batch enters the list. -/
def State.enqueueFor (owner : Option (Fin 32)) (s : State) (c : SeqContent) : State := s.enqueue c owner

/-- The frames of a batch enter the list in ascending offset order (R46). -/
def State.enqueueBatch (s : State) (frames : List SeqContent) (owner : Option (Fin 32)) : State :=
  frames.foldl (State.enqueueFor owner) s

/-- The batch finds room within the limit of 95 UPDATE frames (R46). -/
def State.batchFits (s : State) (frames : List SeqContent) : Bool :=
  decide (s.updateCount + frames.length ≤ Config.maxUpdates)

/-! ## The effect of a WRITE (R125 to R127) -/

/-- The words of a WRITE: its inline words, or those its staging slot holds (R125). -/
def State.writeWords (s : State) (e : OctEntry) (source : WriteSource) : List Word :=
  match source with
  | .inline words => words
  | .buffer _ =>
    match e.staging with
    | none => []
    | some j => (s.cmd.staging[j].map fun slot => slot.words).getD []

/-- The staging transfer of an entry is in progress (R122). -/
def State.stagingBusy (s : State) (e : OctEntry) : Bool :=
  match e.staging with
  | none => false
  | some j =>
    match s.cmd.staging[j] with
    | none => false
    | some slot => !slot.arrived && !slot.error

/-- The staging transfer of an entry ended in error (R122). -/
def State.stagingFailed (s : State) (e : OctEntry) : Bool :=
  match e.staging with
  | none => false
  | some j =>
    match s.cmd.staging[j] with
    | none => false
    | some slot => slot.error

/-- A region's staging count falls by 1 (R29). -/
def State.lowerStaging (s : State) (r : Fin 64) : State :=
  s.setRegion r { s.region r with stagingCount := (s.region r).stagingCount - 1 }

/-- What every WRITE does as it takes its effect: the staging count falls and its slot is freed (R125). -/
def State.writeTakesEffect (s : State) (e : OctEntry) (r : Fin 64) : State :=
  { (s.lowerStaging r).freeStaging e.staging with stream.waitWrite := false }

/-- A WRITE takes its effect and completes; then the grant step, where it is due (R125, R29). -/
def State.writeCompletes (s : State) (i : Fin 32) (e : OctEntry) (r : Fin 64) (status : Status) (info : Info) : State :=
  ((s.writeTakesEffect e r).finishHead i status info).grantIfDue r

/-- A WRITE presents its batch (R46, R126). -/
def State.presentWrite (s : State) (i : Fin 32) (e : OctEntry) (r : Fin 64) (offset : Nat) (words : List Word)
    (waitRemote : Bool) : State :=
  let frames := writeBatch words.length r offset words
  if s.streaming = false then
    if s.dev.state = .running then
      (s.apply r offset words .localHost).writeCompletes i e r .okLocal (s.writeInfo r words.length)
    else { s with stream.waitWrite := false }
  else if s.batchFits frames then
    if waitRemote then
      let t := (s.enqueueBatch frames (some i)).apply r offset words .localHost
      ((t.writeTakesEffect e r).awaitEvent i { e with staging := none, info := s.writeInfo r words.length }).grantIfDue r
    else
      ((s.enqueueBatch frames none).apply r offset words .localHost).writeCompletes i e r .ok
        (s.writeInfo r words.length)
  else { s.setEntry i { e with phase := .executingWait } with stream.waitWrite := true }

/-- A WRITE at the head whose data is there examines its region: the first line of R125 that applies. -/
def State.writeEffect (s : State) (i : Fin 32) (e : OctEntry) (r : Fin 64) (offset : Nat) (source : WriteSource)
    (waitRemote : Bool) : State :=
  let words := s.writeWords e source
  if (s.region r).cls = .off then s.writeCompletes i e r .regionOff (s.writeInfo r 0)
  else if (s.region r).state ≠ .here then s.writeCompletes i e r .notOwner (s.writeInfo r 0)
  else if s.stagingFailed e then s.writeCompletes i e r .hostAccess (s.writeInfo r 0)
  else if (s.region r).cls = .cyclic then
    (s.apply r offset words .localHost).writeCompletes i e r .ok (s.writeInfo r words.length)
  else if s.streaming then s.presentWrite i e r offset words waitRemote
  else (s.apply r offset words .localHost).writeCompletes i e r .okLocal (s.writeInfo r words.length)

/-- The WRITE at the head is told to present its batch again (R46, R126). -/
def State.presentHeadWrite (s : State) : State :=
  match s.cmd.queue with
  | [] => s
  | i :: _ =>
    match s.entry i with
    | none => s
    | some e =>
      match e.command with
      | .write r offset _ source waitRemote => s.presentWrite i e r offset (s.writeWords e source) waitRemote
      | _ => s

/-! ## The refresh cursor (R92) -/

/-- The first region from `first` on that is ACKED and HERE (R92). -/
def State.refreshTarget (s : State) (first : Nat) : Option (Fin 64) :=
  (List.finRange 64).find? fun r =>
    decide (first ≤ r.val) && decide ((s.region r).cls = .acked) && decide ((s.region r).state = .here)

/-- A search of the refresh cursor. Past region 63 the cursor becomes none and SYNC_DONE enters the list (R92). -/
def State.refreshSearch (s : State) (first : Nat) : State :=
  match s.refreshTarget first with
  | some r => { s with link.refresh := some { region := r, step := 0, waiting := false } }
  | none => { s with link.refresh := none }.enqueue .syncDone none

/-- The refresh UPDATE of a step: 16 words from offset 16k, last_of_region at step 3 (R47). -/
def refreshFrame (r : Fin 64) (step : Nat) (words : List Word) : SeqContent :=
  .update (regionByte r) (BitVec.ofNat 8 (16 * step)) words false true (decide (step = 3))

/-- The refresh cursor takes one step: it checks its region and presents its one-frame batch (R92). The second part
says whether the cursor goes on in the same step of the part. -/
def State.refreshStep (s : State) (c : RefreshCursor) : State × Bool :=
  if (s.region c.region).cls = .acked ∧ (s.region c.region).state = .here then
    if s.streaming = false then ({ s with link.refresh := none }, false)
    else if s.updateCount + 1 ≤ Config.maxUpdates then
      match s.capture c.region (16 * c.step) 16 with
      | none => (s.enterFaulted .mirrorParity, false)
      | some words =>
        let t := s.enqueue (refreshFrame c.region c.step words) none
        if c.step < 3 then
          ({ t with link.refresh := some { region := c.region, step := c.step + 1, waiting := false } }, true)
        else (t.refreshSearch (c.region.val + 1), true)
    else ({ s with link.refresh := some { c with waiting := true } }, false)
  else (s.refreshSearch (c.region.val + 1), true)

/-- The refresh cursor goes on until it waits, ends or stops. -/
def State.refreshRun : Nat → State → State
  | 0, s => s
  | fuel + 1, s =>
    match s.link.refresh with
    | none => s
    | some c => if (s.refreshStep c).2 then State.refreshRun fuel (s.refreshStep c).1 else (s.refreshStep c).1

/-- Steps of the cursor at most: five for each region. -/
def refreshFuel : Nat := 320

/-! ## Waiting requesters (R46) -/

/-- One waiting requester presents its batch again. The refresh cursor goes on through its later batches until it waits or
ends, before a WRITE that presents after it has its own batch tested: the spec does not say whether the WRITE's test
falls before or after those later batches (R46, R92; DESIGN CHOICE, log entry 41). -/
def State.presentRequester (s : State) (q : Requester) : State :=
  match q with
  | .write => s.presentHeadWrite
  | .refresh => State.refreshRun refreshFuel s

/-- The requesters recorded as waiting (R46). -/
def State.waitingRequesters (s : State) : List Requester :=
  (if s.stream.waitWrite then [.write] else [])
    ++ (match s.link.refresh with
        | some c => if c.waiting then [.refresh] else []
        | none => [])

/-- The next requester presents, unless the one before ended in a fault. -/
def State.presentNext (s : State) (q : Requester) : State := s.andThen fun t => t.presentRequester q

/-- Every waiting requester is told to present again; either may be first (R46). -/
def State.presentWaiting (s : State) : State :=
  (freeOrder s.choices s.waitingRequesters).foldl State.presentNext (s.chosen s.waitingRequesters.length)

end Sys2Proof.Machine
end

