-- ==== Sys2Proof/Machine/LinkOps.lean ====
section
/-! DEFINITION. Shared operations of the Stream Controller and the Link Controller: acknowledgements, HELLO, joining and
reconcile, entry to UP, and link loss (03, 05). -/

namespace Sys2Proof.Machine

/-! ## Acknowledgements (R26, R52 to R54) -/

/-- The step that sets the second sync flag in SYNCING moves the link to UP (R93). -/
def State.tryUp (s : State) : State :=
  if s.link.state = .syncing ∧ s.link.syncSent = true ∧ s.link.syncReceived = true then
    { s with link.state := .up }.event .linkUp
  else s

/-- This part's OWN_GRANT leaves the list on acknowledgement: a GRANTING region becomes THERE at the next generation,
and its RELEASE, if any, completes OK (R26). -/
def State.grantAcknowledged (s : State) (r : Fin 64) : State :=
  if (s.region r).state = .granting then
    let t := s.setRegion r
      { (s.region r).withGeneration (nextGeneration (s.region r).generation) with
        state := .there, releaseEntry := none }
    match (s.region r).releaseEntry with
    | some i => t.requestCompletion i .ok (t.summary r)
    | none => t
  else s

/-- A WRITE that awaits its acknowledgement completes with the words of its step (R119, R127). -/
def State.completeWrite (s : State) (i : Fin 32) (status : Status) : State :=
  match s.entry i with
  | some e => s.requestCompletion i status e.info
  | none => s

/-- The effect of one frame's removal on acknowledgement (R53). -/
def State.frameAcknowledged (s : State) (t : TxEntry) : State :=
  match t.content with
  | .update _ _ _ lastOfCommand _ _ =>
    match t.owner with
    | some i => if lastOfCommand then s.completeWrite i .ok else s
    | none => s
  | .ownGrant b _ _ =>
    match regionOfByte b with
    | some r => s.grantAcknowledged r
    | none => s
  | .syncDone => { s with link.syncSent := true }.tryUp
  | .ownReq .. => s
  | .ownDeny .. => s

/-- The entry is a FENCE (R131). -/
def OctEntry.isFence (e : OctEntry) : Bool := e.command == .fence

/-- A waiting FENCE completes with its mark (R131, R132). -/
def State.completeFence (status : Status) (s : State) (i : Fin 32) : State :=
  match s.entry i with
  | some e => s.requestCompletion i status (fenceInfo e.mark)
  | none => s

/-- The FENCE commands that wait and meet a condition, in entry order. -/
def State.waitingFences (s : State) (p : OctEntry → Bool) : List (Fin 32) := s.awaiting fun e => e.isFence && p e

/-- Waiting FENCE commands complete, in a free order among them (R53, R63; log entry 11). -/
def State.completeFences (s : State) (p : OctEntry → Bool) (status : Status) : State :=
  (freeOrder s.choices (s.waitingFences p)).foldl (State.completeFence status) (s.chosen (s.waitingFences p).length)

/-- The FENCE marks one of these frames (R53, R132). -/
def OctEntry.marks (frames : List TxEntry) (e : OctEntry) : Bool :=
  match e.mark with
  | some m => frames.any fun f => f.seq == m
  | none => false

/-- An acknowledgement value is taken: the `count` oldest frames leave the list with their effects, the retry count
returns to 0, the timer restarts or stops, the waiting FENCE commands are examined, and waiting batches present again
where an UPDATE has left (R53, R54). -/
def State.takeAcknowledgement (s : State) (count : Nat) : State :=
  let removed := s.stream.list.take count
  let kept := s.stream.list.drop count
  let t := removed.foldl State.frameAcknowledged { s with stream.list := kept }
  let t := { t with
    stream.retryCount := 0
    stream.sessionAcked := true
    stream.timer := if kept.any (fun f => f.sent) then some s.params.ackTimeout else none }
  let t := t.completeFences (OctEntry.marks removed) .ok
  if removed.any (fun f => f.content.isUpdate) then t.presentWaiting else t

/-- The sequence number of the oldest frame, or the next one if the list is empty (R52). -/
def State.oldestSeq (s : State) : BitVec 8 :=
  match s.stream.list with
  | [] => s.stream.nextSeq
  | t :: _ => t.seq

/-- A received acknowledgement value is classified by its distance from the oldest frame (R52). -/
def State.processAck (s : State) (n : BitVec 8) : State :=
  let d := (n - s.oldestSeq).toNat
  if d < s.sentCount then s.takeAcknowledgement (d + 1)
  else if d ≤ 127 then s.protocolError .ackAhead none
  else s

/-- The acknowledgement value of the part (R51). -/
def State.ackValue (s : State) : BitVec 8 := s.stream.expected - 1

/-! ## HELLO (R85, R88) -/

/-- A region is claimed when it is HERE or GRANTING (R85). -/
def OwnState.claims : OwnState → Bool
  | .here => true
  | .granting => true
  | _ => false

/-- The present fresh flag, sweep period, class map and claim map (R85). -/
def State.presentContent (s : State) : HelloContent :=
  { fresh := s.link.fresh
    sweepPeriod := BitVec.ofNat 16 s.params.sweepPeriod
    classMap := Vector.ofFn fun r => BitVec.ofNat 2 (s.region r).cls.code
    claims := Vector.ofFn fun r => (s.region r).state.claims
    generations := Vector.ofFn fun r => (s.region r).generation }

/-- The fixed HELLO content (R88). -/
def State.fixedContent (s : State) : HelloContent := s.link.fixed.getD s.presentContent

/-- A HELLO is handed to the framer; it replaces one that waits (R85, R107). -/
def State.handHello (s : State) (heard : Option (BitVec 16)) (joined : Bool) (content : HelloContent) : State :=
  { s with framer.hello := some { nodeId := s.params.nodeId, heard := heard, joined := joined, content := content } }

/-- The hello timer is started or restarted with the hello interval (R85). -/
def State.restartHello (s : State) : State := { s with link.helloTimer := some s.params.helloInterval }

/-- The silence timer is started or restarted with four hello intervals (R97). -/
def State.restartSilence (s : State) : State :=
  { s with link.silenceTimer := some (Config.silenceIntervals * s.params.helloInterval) }

/-- The epoch of the recorded peer, as a heard field names it (R85). -/
def State.heardEpoch (s : State) : Option (BitVec 16) := s.link.peer.map fun p => p.epoch

/-- A SEEKING HELLO with the present values (R85). -/
def State.handSeekingHello (s : State) : State := s.handHello none false s.presentContent

/-- A JOINING HELLO with the fixed content (R85). -/
def State.handJoiningHello (s : State) : State := s.handHello s.heardEpoch false s.fixedContent

/-- A confirming HELLO with the fixed content (R85, R90, R95). -/
def State.handConfirmingHello (s : State) : State := s.handHello s.heardEpoch true s.fixedContent

/-- The link enters SEEKING with the entry actions of R85. -/
def State.enterSeeking (s : State) : State :=
  { s with link.state := .seeking }.handSeekingHello.restartHello

/-- The parameter checks of R87, in their order. -/
def State.parameterFailure (s : State) (h : HelloBody) : Option RejectReason :=
  if h.nodeId = s.params.nodeId then some .sameNode
  else if h.content.classMap ≠ s.presentContent.classMap then some .classMap
  else if h.content.sweepPeriod ≠ s.presentContent.sweepPeriod then some .sweepPeriod
  else none

/-- The link enters REJECTED (R87, R89): the timers stop, a waiting HELLO is dropped, the records of the peer and the
fixed content are none. -/
def State.enterRejected (s : State) (reason : RejectReason) : State :=
  { s with
    link.state := .rejected
    link.helloTimer := none
    link.silenceTimer := none
    link.peer := none
    link.peerContent := none
    link.fixed := none
    framer.hello := none }.event (.linkRejected reason)

/-- The link enters JOINING: the peer recorded, the HELLO content fixed, a HELLO handed and both timers started
(R87, R88). -/
def State.enterJoining (s : State) (epoch : BitVec 16) (h : HelloBody) : State :=
  { s with
    link.peer := some { nodeId := h.nodeId, epoch := epoch }
    link.peerContent := some h.content
    link.fixed := some s.presentContent
    link.state := .joining }.handJoiningHello.restartHello.restartSilence

/-- A HELLO taken in SEEKING (R87). -/
def State.helloInSeeking (s : State) (epoch : BitVec 16) (h : HelloBody) : State :=
  match s.parameterFailure h with
  | some reason => s.enterRejected reason
  | none => s.enterJoining epoch h

/-! ## Reconcile and the completion of a join (R90, R91, 5.5) -/

/-- The owner side of a region is this part: the table of 5.5. `roleA` says that this part has the lower node id. -/
def ownerIsHere (ownFresh peerFresh ownClaims peerClaims : Bool) (ownGen peerGen : BitVec 32) (roleA : Bool) : Bool :=
  if ownFresh != peerFresh then
    if ownFresh then !peerClaims else ownClaims
  else if ownClaims != peerClaims then ownClaims
  else if ownClaims && !ownFresh && decide (ownGen ≠ peerGen) then decide (peerGen.toNat < ownGen.toNat)
  else roleA

/-- The larger of two generations (R91). -/
def largerGeneration (a b : BitVec 32) : BitVec 32 := if a.toNat < b.toNat then b else a

/-- A region's entry after its owner side is decided (R91). -/
def RegionEntry.reconciled (e : RegionEntry) (here : Bool) (generation : BitVec 32) : RegionEntry :=
  { e.withGeneration generation with
    state := if here then .here else .there
    held := false
    pending := none
    claimEntry := none
    releaseEntry := none
    stale := !here }

/-- The event of a region's reconcile, by its class and its states before and after (R91). -/
def reconcileEvent (r : Fin 64) (cls : RegionClass) (before : OwnState) (here : Bool) : Option Event :=
  if cls = .off then none
  else match before, here with
    | .granting, true => some (.ownershipKept r)
    | .here, false => some (.ownershipLost r)
    | .there, true => some (.ownershipArrived r false)
    | .claiming, true => some (.ownershipArrived r false)
    | .here, true => none
    | .there, false => none
    | .claiming, false => none
    | .granting, false => none

/-- This part owns the region after the reconcile of two HELLO contents (5.5). -/
def State.ownsAfter (s : State) (own peer : HelloContent) (r : Fin 64) : Bool :=
  ownerIsHere own.fresh peer.fresh own.claims[r] peer.claims[r] own.generations[r] peer.generations[r]
    (decide (s.params.nodeId.toNat < ((s.link.peer.map Peer.nodeId).getD 0).toNat))

/-- The reconcile of every region, and then its events in ascending order of region (R91, R164). -/
def State.reconcile (s : State) (own peer : HelloContent) : State :=
  let t := s.mapRegions fun r e =>
    e.reconciled (s.ownsAfter own peer r) (largerGeneration own.generations[r] peer.generations[r])
  ((List.finRange 64).filterMap fun r =>
      reconcileEvent r (s.region r).cls (s.region r).state (s.ownsAfter own peer r)).foldl State.event t

/-- A new session of the stream begins: every item as the column of R65 gives it (R62, R65). -/
def State.beginSession (s : State) : State :=
  { s with stream := .reset }

/-- The sweep timer's state at entry to SYNCING: running with P, if P is not 0 (R66). -/
def sweepTimerFor (p : Nat) : Option Nat := if p = 0 then none else some p

/-- A join completes: the stages of R90, with what the sweep (R66), the framer (R110, R112) and the refresh (R92) do at
the entry to SYNCING. The peer's content is that of the HELLO that completed the join. -/
def State.completeJoin (s : State) (peer : HelloContent) : State :=
  let t := s.reconcile s.fixedContent peer
  let t := { t with link.fresh := false }.handConfirmingHello
  let t := { t with
    link.helloTimer := none
    link.syncSent := false
    link.syncReceived := false
    link.confirmDue := true
    link.state := .syncing }.beginSession
  let t := { t with
    sweep := { SweepBlock.reset with timer := sweepTimerFor s.params.sweepPeriod, number := t.sweep.number }
    framer.turnCount := 0
    framer.quietTimer := some s.params.helloInterval
    framer.idleDue := false }
  State.refreshRun refreshFuel (t.refreshSearch 0)

/-! ## Link loss (R99, R42, R63, R78, R113) -/

/-- The loss ends in OFF (R98). -/
def LossReason.endsOff : LossReason → Bool
  | .host => true
  | .stop => true
  | _ => false

/-- The commands that a loss completes at the Ownership Controller: the CLAIM of each CLAIMING region LINK_LOST, the
RELEASE of each GRANTING region UNCONFIRMED (R42). -/
def State.handOverCommands (s : State) : List (Fin 64 × Fin 32 × Status) :=
  (List.finRange 64).filterMap fun r =>
    match (s.region r).state with
    | .claiming => (s.region r).claimEntry.map fun i => (r, i, .linkLost)
    | .granting => (s.region r).releaseEntry.map fun i => (r, i, .unconfirmed)
    | _ => none

/-- A region's state and entries after a loss (R42). -/
def RegionEntry.afterLoss (e : RegionEntry) : RegionEntry :=
  match e.state with
  | .claiming => { e with state := .there, claimEntry := none }
  | .granting => { e with releaseEntry := none }
  | _ => e

/-- After the changes of a loss every region in THERE is marked stale (R42). -/
def RegionEntry.markStale (e : RegionEntry) : RegionEntry := if e.state = .there then { e with stale := true } else e

/-- One of those commands completes, with the summary of its region as it then stands (R42). -/
def State.settleCommand (s : State) (c : Fin 64 × Fin 32 × Status) : State :=
  s.requestCompletion c.2.1 c.2.2 (s.summary c.1)

/-- The Ownership Controller's part of a loss, but for the pending requests (R42). The completions carry the summary
with the region's new state, before the marking of stale regions (log entry 20); their order is free. -/
def State.settleOwnership (s : State) : State :=
  let commands := s.handOverCommands
  let t := (s.mapRegions fun _ e => e.afterLoss).chosen commands.length
  ((freeOrder s.choices commands).foldl State.settleCommand t).mapRegions fun _ e => e.markStale

/-- A frame is removed without acknowledgement: the last frame of a WRITE that awaits it completes the WRITE UNCONFIRMED
(R63). -/
def State.frameDiscarded (s : State) (f : TxEntry) : State :=
  match f.content, f.owner with
  | .update _ _ _ true _ _, some i => s.completeWrite i .unconfirmed
  | _, _ => s

/-- The Stream Controller's part of a loss: the list is emptied, oldest frame first, and every waiting FENCE completes
LINK_LOST (R63). -/
def State.emptyStream (s : State) : State :=
  (s.stream.list.foldl State.frameDiscarded { s with
      stream.list := []
      stream.timer := none
      stream.retryCount := 0
      stream.ackDue := false
      stream.sessionAcked := false }).completeFences (fun _ => true) .linkLost

/-- What a loss does to the Sweep Controller (R78). -/
def State.stopSweep (s : State) : State :=
  { s.mapRegions (fun _ e => { e with lastSweep := none, age := 0 }) with
    sweep.timer := none
    sweep.cursor := none
    sweep.offered := none
    sweep.pending := false
    sweep.overrun := false }

/-- What a loss does at once to the Link Controller, the framer and the counters: the BYE of a HOST or STOP loss with
the epoch before the rise, the counter, the epoch, the records of the peer, timers and flags (R99, R107, R113). -/
def State.dropSession (s : State) (reason : LossReason) : State :=
  { s.raise .linkLosses with
    framer.bye := if reason.endsOff then some s.link.epoch else s.framer.bye
    framer.hello := none
    framer.turnCount := 0
    framer.quietTimer := none
    framer.idleDue := false
    link.state := if reason.endsOff then .off else .seeking
    link.epoch := s.link.epoch + 1
    link.peer := none
    link.peerContent := none
    link.fixed := none
    link.helloTimer := none
    link.silenceTimer := none
    link.confirmDue := false
    link.refresh := none
    link.syncSent := false
    link.syncReceived := false }

/-- A pending peer request is dropped at a loss, and its timer with it (R42). -/
def State.dropRequests (s : State) : State := s.mapRegions fun _ e => { e with pending := none }

/-- The parts of a loss that request completions of hand-over commands and of the waiting WRITE, which is told to
present and whose batch is refused (R42, R63, R126). -/
def State.lossParts (s : State) : List (State → State) :=
  State.settleOwnership :: (if s.stream.waitWrite then [State.presentHeadWrite] else [])

/-- One part of a step is taken. -/
def State.taking (s : State) (f : State → State) : State := f s

/-- A link loss, taken as one step (R99). The refused WRITE presents once the pending requests are dropped; whether its
completion is requested before or after those of the hand-over commands is free (log entry 14). -/
def State.linkLoss (s : State) (reason : LossReason) : State :=
  let t := (s.dropSession reason).emptyStream.stopSweep.dropRequests
  let t := (freeOrder t.choices t.lossParts).foldl State.taking (t.chosen t.lossParts.length)
  let t := t.event (.linkLost reason)
  if reason.endsOff then t else t.enterSeeking

end Sys2Proof.Machine
end

