-- ==== Sys2Proof/Machine/Commands.lean ====
section
/-! DEFINITION. The commands at the head of the Execution Queue but for those on ownership, and the ends of their
transfers (07, 09). -/

namespace Sys2Proof.Machine

/-! ## NOP, QUERY_REGION, FENCE (R131, R134, R135) -/

/-- NOP completes OK with zero in its information words (R135). -/
def State.nopAtHead (s : State) : State :=
  s.atHead fun i e =>
    match e.command with
    | .nop => s.finishHead i .ok .zero
    | _ => s

/-- NOP (R135). -/
def execNop (s : State) : Host.Outcome State Fault Refusal := live State.nopAtHead s

/-- QUERY_REGION completes OK with the region summary (R134). -/
def State.queryRegionAtHead (s : State) : State :=
  s.atHead fun i e =>
    match e.command with
    | .queryRegion r => s.finishHead i .ok (s.summary r)
    | _ => s

/-- QUERY_REGION (R134). -/
def execQueryRegion (s : State) : Host.Outcome State Fault Refusal := live State.queryRegionAtHead s

/-- FENCE takes the first line of R131 that applies; its mark is the newest frame's sequence number. -/
def State.fenceAtHead (s : State) : State :=
  s.atHead fun i e =>
    match e.command with
    | .fence =>
      if s.streaming then
        match s.stream.list.getLast? with
        | none => s.finishHead i .ok .zero
        | some t => s.awaitEvent i { e with mark := some t.seq }
      else s.finishHead i .okLocal .zero
    | _ => s

/-- FENCE (R131). -/
def execFence (s : State) : Host.Outcome State Fault Refusal := live State.fenceAtHead s

/-! ## WRITE (R122, R125) -/

/-- A WRITE at the head waits for its staging transfer, or takes its effect (R125). -/
def State.writeAtHead (s : State) : State :=
  s.atHead fun i e =>
    match e.command with
    | .write r offset _ source waitRemote =>
      if s.stagingBusy e then s.setEntry i { e with phase := .executingWait }
      else s.writeEffect i e r offset source waitRemote
    | _ => s

/-- WRITE (R125). -/
def execWrite (s : State) : Host.Outcome State Fault Refusal := live State.writeAtHead s

/-! ## READ (R129) -/

/-- READ takes its capture into its read buffer, leaves the head and begins its output transfer. Class OFF completes it
REGION_OFF and frees its buffer; a parity error stops it where it stands (R129, R7). -/
def State.readAtHead (s : State) : State :=
  s.atHead fun i e =>
    match e.command with
    | .read r offset count _ =>
      if (s.region r).cls = .off then (s.freeBuffer e.buffer).finishHead i .regionOff .zero
      else
        match e.buffer with
        | none => s
        | some j =>
          match s.capture r offset count with
          | none => s.enterFaulted .mirrorParity
          | some words =>
            ({ s with
              cmd.buffers := s.cmd.buffers.set j (some
                { entry := i
                  capture := some
                    { words := words, generation := (s.region r).generation, stale := (s.region r).stale } }) }).awaitEvent
              i e
    | _ => s

/-- READ (R129). -/
def execRead (s : State) : Host.Outcome State Fault Refusal := live State.readAtHead s

/-! ## STATS (R133) -/

/-- STATS copies the twelve counters, clears them if CLEAR is set, and stays at the head while its output transfer runs
(R133). -/
def State.statsAtHead (s : State) : State :=
  s.atHead fun i e =>
    match e.command with
    | .stats _ clear =>
      { s.setEntry i { e with phase := .executingWait } with
        cmd.statsCopy := some s.dev.counters
        dev.counters := if clear then Vector.replicate 12 0 else s.dev.counters }
    | _ => s

/-- STATS (R133). -/
def execStats (s : State) : Host.Outcome State Fault Refusal := live State.statsAtHead s

/-! ## WATCH_SET and WATCH_CLEAR (R159, R160) -/

/-- WATCH_SET replaces the entry in the named slot whole and arms it; class OFF leaves the slot as it was (R159). -/
def State.watchSetAtHead (s : State) : State :=
  s.atHead fun i e =>
    match e.command with
    | .watchSet slot spec =>
      if (s.region spec.region).cls = .off then s.finishHead i .regionOff (s.watchInfo slot)
      else
        ({ s with watch.table := s.watch.table.set slot { armed := true, spec := spec } }).finishHead i .ok
          (s.watchInfo slot)
    | _ => s

/-- WATCH_SET (R159). -/
def execWatchSet (s : State) : Host.Outcome State Fault Refusal := live State.watchSetAtHead s

/-- WATCH_CLEAR disarms the entry in the named slot and keeps its other fields (R160). -/
def State.watchClearAtHead (s : State) : State :=
  s.atHead fun i e =>
    match e.command with
    | .watchClear slot =>
      ({ s with watch.table := s.watch.table.set slot { s.watch.table[slot] with armed := false } }).finishHead i .ok
        (s.watchInfo slot)
    | _ => s

/-- WATCH_CLEAR (R160). -/
def execWatchClear (s : State) : Host.Outcome State Fault Refusal := live State.watchClearAtHead s

/-! ## LINK_UP and LINK_DOWN (R82, R83) -/

/-- LINK_UP moves the link from OFF or REJECTED into SEEKING; elsewhere it changes nothing (R82). -/
def State.linkUpAtHead (s : State) : State :=
  s.atHead fun i e =>
    match e.command with
    | .linkUp =>
      if s.link.state = .off ∨ s.link.state = .rejected then s.enterSeeking.finishHead i .ok s.enterSeeking.linkInfo
      else s.finishHead i .ok s.linkInfo
    | _ => s

/-- LINK_UP (R82). -/
def execLinkUp (s : State) : Host.Outcome State Fault Refusal := live State.linkUpAtHead s

/-- What LINK_DOWN does to the link, by its state (R83). -/
def State.linkDownEffect (s : State) : State :=
  match s.link.state with
  | .off => s
  | .rejected => { s with link.state := .off, framer.hello := none }
  | _ => s.linkLoss .host

/-- LINK_DOWN takes its effect and completes OK when the loss step has been taken (R83). -/
def State.linkDownAtHead (s : State) : State :=
  s.atHead fun i e =>
    match e.command with
    | .linkDown => s.linkDownEffect.finishHead i .ok s.linkDownEffect.linkInfo
    | _ => s

/-- LINK_DOWN (R83). -/
def execLinkDown (s : State) : Host.Outcome State Fault Refusal := live State.linkDownAtHead s

/-! ## Aborts of STOP (R136, R154) -/

/-- A host-memory transfer of the entry is in progress: its staging transfer, a READ's output after its capture, or a
STATS's output (R154). -/
def State.transferBusy (s : State) (e : OctEntry) : Bool :=
  s.stagingBusy e
    || (match e.command with
        | .read .. => decide (e.phase = .awaitingEvent)
        | .stats .. => decide (e.phase = .executingWait)
        | _ => false)

/-- What an aborted command gives up: a WRITE its place in the staging count and its slot, a READ its buffer, the
STATS whose output transfer runs its copy (R136, R154). -/
def State.giveUp (s : State) (e : OctEntry) : State :=
  match e.command with
  | .write r _ _ _ _ => s.writeTakesEffect e r
  | .read .. => s.freeBuffer e.buffer
  | .stats .. => if e.phase = .executingWait then { s with cmd.statsCopy := none } else s
  | _ => s

/-- An entry completes ABORTED with zero in its information words (R154). -/
def State.abortEntry (s : State) (i : Fin 32) : State :=
  match s.entry i with
  | none => s
  | some e =>
    { s.giveUp e with cmd.queue := s.cmd.queue.filter fun k => k ≠ i }.requestCompletion i .aborted .zero

/-- An entry still in use that has no transfer in progress completes ABORTED (R154). A completed entry only awaits its
record. -/
def State.abortIdle (s : State) (i : Fin 32) : State :=
  match s.entry i with
  | none => s
  | some e => if e.phase = .completed ∨ s.transferBusy e = true then s else s.abortEntry i

/-- Entry to STOPPING: the entries without a transfer in progress complete ABORTED, in ascending order of entry index
(R154). -/
def State.abortAll (s : State) : State := (List.finRange 32).foldl State.abortIdle s

/-! ## Ends of transfers (R122, R130, R133) -/

/-- The count of words a WRITE's transfer brings. -/
def Command.writeCount : Command → Nat
  | .write _ _ count _ _ => count
  | _ => 0

/-- A WRITE at the head in executing-wait takes its effect as its staging transfer ends (R122). -/
def State.writeResumes (s : State) (i : Fin 32) : State :=
  if s.cmd.queue.head? = some i then
    match s.entry i with
    | none => s
    | some e =>
      match e.command with
      | .write r offset _ source waitRemote =>
        if e.phase = .executingWait then s.writeEffect i e r offset source waitRemote else s
      | _ => s
  else s

/-- A slot as its transfer leaves it (R122). -/
def StagingSlot.ended (slot : StagingSlot) (result : Option (List Byte)) : StagingSlot :=
  match result with
  | some bytes => { slot with words := bytesWords bytes, arrived := true }
  | none => { slot with error := true }

/-- The host address of a command's buffer. -/
def Command.bufferAddr : Command → Addr
  | .write _ _ _ (.buffer addr) _ => addr
  | .read _ _ _ addr => addr
  | .stats addr _ => addr
  | _ => 0

/-- The staging transfer of a slot ends (R122) with host memory as the read found it (R189). In STOPPING its WRITE
completes ABORTED (R154); in FAULTED its outcome is not recorded (R136). A transfer brings exactly the bytes the WRITE
asked for. -/
def State.stagingEnds (s : State) (j : Fin 8) (result : Option (List FoundByte)) : State :=
  match s.cmd.staging[j] with
  | none => s
  | some slot =>
    match s.entry slot.entry with
    | none => s
    | some e =>
      if slot.arrived ∨ slot.error ∨ result.any (fun b => b.length ≠ 4 * e.command.writeCount) then s
      else
        match s.dev.state with
        | .running =>
          { s with
            cmd.staging := s.cmd.staging.set j
              (some (slot.ended (result.map (s.hostMem.load e.command.bufferAddr)))) }.writeResumes slot.entry
        | .stopping => s.abortEntry slot.entry
        | _ => s

/-- STAGING_TRANSFER_DONE (R122). -/
def execStagingTransferDone (slot : Fin 8) (result : Option (List FoundByte)) (s : State) :
    Host.Outcome State Fault Refusal :=
  live (fun t => t.stagingEnds slot result) s

/-- The completion that the end of an output transfer decides (R130). -/
def Capture.status (c : Capture) (ok : Bool) : Status := if ok then (if c.stale then .okStale else .ok) else .hostAccess

/-- The output transfer of a read buffer ends (R130): without error its words are in host memory. In STOPPING the READ
completes ABORTED whatever the outcome (R154); in FAULTED the outcome is not recorded (R136), and that its bytes are then
not put into host memory is a DESIGN CHOICE (log entry 24). -/
def State.readOutputEnds (s : State) (j : Fin 4) (ok : Bool) : State :=
  match s.cmd.buffers[j] with
  | none => s
  | some b =>
    match b.capture, s.entry b.entry with
    | some c, some e =>
      let t := if ok then s.hostWritten e.command.bufferAddr (wordBytes c.words) else s
      match s.dev.state with
      | .running =>
        (t.freeBuffer (some j)).requestCompletion b.entry (c.status ok) (c.info (if ok then c.words.length else 0))
      | .stopping => t.abortEntry b.entry
      | _ => s
    | _, _ => s

/-- READ_OUTPUT_DONE (R130). -/
def execReadOutputDone (buffer : Fin 4) (ok : Bool) (s : State) : Host.Outcome State Fault Refusal :=
  live (fun t => t.readOutputEnds buffer ok) s

/-- The bytes of the statistics copy, word 0 at the lowest address (R133). -/
def statsBytes (copy : Vector Word 12) : List Byte := wordBytes copy.toList

/-- The output transfer of the statistics copy ends (R133): the STATS at the head completes OK or HOST_ACCESS and leaves
the head; in STOPPING it completes ABORTED (R154). That a transfer still in progress at entry to FAULTED puts no bytes
into host memory is a DESIGN CHOICE (log entry 24). -/
def State.statsOutputEnds (s : State) (ok : Bool) : State :=
  match s.cmd.statsCopy, s.cmd.queue with
  | some copy, i :: _ =>
    match s.entry i with
    | none => s
    | some e =>
      match e.command with
      | .stats addr clear =>
        if e.phase = .executingWait then
          let t := if ok then s.hostWritten addr (statsBytes copy) else s
          match s.dev.state with
          | .running =>
            { t with cmd.statsCopy := none }.finishHead i (if ok then .ok else .hostAccess)
              (statsInfo (if ok then 12 else 0) clear)
          | .stopping => t.abortEntry i
          | _ => s
        else s
      | _ => s
  | _, _ => s

/-- STATS_OUTPUT_DONE (R133). -/
def execStatsOutputDone (ok : Bool) (s : State) : Host.Outcome State Fault Refusal :=
  live (fun t => t.statsOutputEnds ok) s

end Sys2Proof.Machine
end

