-- ==== Sys2Proof/Machine/Notify.lean ====
section
/-! DEFINITION. The Watch Unit's evaluation and the Notification Poster (09, R153). -/

namespace Sys2Proof.Machine

/-! ## Evaluation of apply reports (R161, R162) -/

/-- A word fires by its values before and after the apply (R162). -/
def WatchSpec.fires (w : WatchSpec) (before after : Word) : Bool :=
  if w.isMatch then decide (before &&& w.mask ≠ w.value) && decide (after &&& w.mask = w.value)
  else decide (before ≠ after)

/-- The firing words of a report for a watch, by offset, with their values after the apply: the words of the shared
offsets that fire, lowest offset first (R161, R162). -/
def ApplyReport.firing (p : ApplyReport) (w : WatchSpec) : List (Nat × Word) :=
  ((p.before.zip p.after).zipIdx p.first).filterMap fun x =>
    if w.first ≤ x.2 ∧ x.2 ≤ w.last ∧ w.fires x.1.1 x.1.2 = true then some (x.2, x.1.2) else none

/-- An armed entry is evaluated on a report of its region, whose source is PEER, or LOCAL where the entry's source is
BOTH (R161). -/
def WatchEntry.examines (e : WatchEntry) (p : ApplyReport) : Bool :=
  e.armed && decide (e.spec.region = p.region) && (decide (p.source = .peer) || e.spec.both)

/-- One slot is evaluated on a report: at least one firing word yields one WATCH record, and a one-shot entry is
disarmed as it fires (R162). -/
def State.evaluateSlot (p : ApplyReport) (s : State) (slot : Fin 16) : State :=
  let e := s.watch.table[slot]
  if e.examines p then
    match p.firing e.spec with
    | [] => s
    | (offset, value) :: rest =>
      { s with
        watch.table := s.watch.table.set slot { e with armed := !e.spec.oneShot } }.submit
        (.watch slot p.region offset value (rest.length + 1) p.source)
  else s

/-- The oldest report awaiting evaluation is evaluated whole, in ascending slot order, while the Watch Unit runs (R161;
log entry 17). -/
def State.evaluateReport (s : State) : State :=
  if s.working then
    match s.watch.reports with
    | [] => s
    | p :: rest => (List.finRange 16).foldl (State.evaluateSlot p) { s with watch.reports := rest }
  else s

/-- WATCH_EVALUATION (R161, R162). -/
def execWatchEvaluation (s : State) : Host.Outcome State Fault Refusal := live State.evaluateReport s

/-! ## Records and the overflow policy (R164 to R168) -/

/-- Unconsumed notification records (R166). -/
def State.notifyUnconsumed (s : State) : Nat := ringDistance s.notif.post s.notif.consumer s.params.notifySize

/-- The notification ring is full (R166). -/
def State.notifyFull (s : State) : Bool := decide (s.params.notifySize ≤ s.notifyUnconsumed + 1)

/-- One record is lost or given up: the lost count, stopping at 65,535, and NOTIFY_LOST rise (R164). -/
def State.countLoss (s : State) : State :=
  { s.raise .notifyLost with notif.lost := min (s.notif.lost + 1) Config.lostCountMax }

/-- A record is produced and lost: it takes its sequence number (R164, R166, R168). -/
def State.loseRecord (s : State) : State := { s.countLoss with notif.number := s.notif.number + 1 }

/-- A record is produced and its write into slot k begins; it carries the lost count, which then becomes 0 (R164). -/
def State.produceRecord (s : State) (body : Submission) : State :=
  { s with
    notif.writing := some { number := s.notif.number, lost := s.notif.lost, body := body }
    notif.number := s.notif.number + 1
    notif.lost := 0 }

/-- The oldest unconsumed record is given up (R167). -/
def State.giveUpOldest (s : State) : State :=
  { s.countLoss with notif.consumer := nextSlot s.notif.consumer s.params.notifySize }

/-- A submission's record meets the ring under the overflow policy (R166 to R168). -/
def State.placeRecord (s : State) (x : Submission) : State :=
  match s.params.policy with
  | .dropNew => if s.notifyFull then s.loseRecord else s.produceRecord x
  | .overwriteOld => if s.notifyFull then s.giveUpOldest.produceRecord x else s.produceRecord x
  | .freeze =>
    if s.notif.frozen ∨ s.notifyFull = true then { s.loseRecord with notif.frozen := true } else s.produceRecord x

/-- The head submission is taken while no write is in progress, in RUNNING and STOPPING (R164). -/
def State.takeSubmission (s : State) : State :=
  if s.working ∧ s.notif.writing = none then
    match s.notif.queue with
    | [] => s
    | x :: rest => { s with notif.queue := rest }.placeRecord x
  else s

/-- NOTIFICATION_TAKE (R164, R166 to R168). -/
def execNotificationTake (s : State) : Host.Outcome State Fault Refusal := live State.takeSubmission s

/-! ## The end of a record's write (R165, R151, R153) -/

/-- The notification MSI is sent where its flag is clear, and the flag is set (R153). -/
def State.notifyMsi (s : State) : State :=
  if s.notif.irq then s else { s with notif.irq := true, emitted := .msi 1 :: s.emitted }

/-- A notification record has been written to slot k (R165). -/
def State.notifyPosted (s : State) (r : NotifyRecord) : State :=
  { s.hostWritten (slotAddr s.params.notifyBase s.notif.post 16) (r.bytes s.notif.phase) with
    notif.writing := none
    notif.post := nextSlot s.notif.post s.params.notifySize
    notif.phase := if nextSlot s.notif.post s.params.notifySize = 0 then !s.notif.phase else s.notif.phase }.notifyMsi

/-- A notification record's write ends (R165); an error is the fault RECORD_WRITE (R151). In FAULTED its outcome is not
recorded (R170; log entry 24). In HALTED neither: the part gets there with a write in progress where a watch evaluation
submitted a record after the poster's stop report, and R170 does not say what the end of that write does (DESIGN CHOICE,
log entry 43). -/
def State.notifyWriteEnds (s : State) (ok : Bool) : State :=
  match s.notif.writing with
  | none => s
  | some r => if s.working then (if ok then s.notifyPosted r else s.enterFaulted .recordWrite) else s

/-- NOTIFICATION_WRITE_DONE (R165, R151, R153). -/
def execNotificationWriteDone (ok : Bool) (s : State) : Host.Outcome State Fault Refusal :=
  live (fun t => t.notifyWriteEnds ok) s

/-! ## The consumer view (R169, R168) -/

/-- The ring thaws: the frozen flag is cleared and NOTIFY_RESUMED is produced ahead of the queue (R168). -/
def State.thaw (s : State) : State :=
  { s with notif.frozen := false }.produceRecord (.event (.notifyResumed s.notif.lost))

/-- A notification consumer write reaches the Notification Poster: the interrupt-outstanding flag is cleared, an index
1 to u slots ahead is taken, and a taken write that leaves no unconsumed record thaws a frozen ring (R144, R168,
R169). -/
def State.takeNotifyConsumer (s : State) (index : Nat) : State :=
  let d := ringDistance index s.notif.consumer s.params.notifySize
  let t := { s with notif.irq := false }
  if 1 ≤ d ∧ d ≤ s.notifyUnconsumed then
    let u := { t with notif.consumer := index }
    if s.notif.frozen ∧ index = s.notif.post then u.thaw else u
  else t

/-! ## Stop reports (R170, R179) -/

/-- The step that receives the second stop report moves the part to HALTED (R179). -/
def State.haltIfReported (s : State) : State :=
  if s.dev.state = .stopping ∧ s.dev.rmReport = true ∧ s.dev.npReport = true then { s with dev.state := .halted } else s

/-- The Notification Poster's records are written (R170). -/
def State.notifyDone (s : State) : Bool := s.notif.queue.isEmpty && s.notif.writing.isNone

/-- The Notification Poster reports, where its condition holds while STOPPING (R170, R179). -/
def State.notifyReport (s : State) : State :=
  if s.dev.state = .stopping ∧ s.notifyDone = true then { s with dev.npReport := true }.haltIfReported else s

/-- NOTIFICATION_STOP_REPORT (R170, R179). -/
def execNotificationStopReport (s : State) : Host.Outcome State Fault Refusal := live State.notifyReport s

end Sys2Proof.Machine
end

