-- ==== Sys2Proof/Machine/Rings.lean ====
section
/-! DEFINITION. The Ring Manager: POST writes, record fetch, admission, completion posting and its stop report (08). -/

namespace Sys2Proof.Machine

/-! ## The POST register (R141 to R144) -/

/-- The selector of a submission ring's producer index (R141). -/
def ringSelector : Ring → Nat
  | .urgent => 0
  | .normal => 1

/-- A producer index passes both checks of R142. -/
def State.producerValid (s : State) (ring : Ring) (index : Nat) : Bool :=
  decide (index < s.ringSize ring)
    && decide (s.pendingCount ring ≤ ringDistance index (s.subRing ring).fetch (s.ringSize ring))

/-- A producer write (R142). -/
def State.postProducer (s : State) (ring : Ring) (index : Nat) : State :=
  if s.producerValid ring index then
    (s.setSubRing ring { s.subRing ring with producer := index }).beginFetch ring
  else s.enterFaulted .badPost

/-- A completion consumer index passes both checks of R143. -/
def State.consumerValid (s : State) (index : Nat) : Bool :=
  decide (index < s.params.completionSize)
    && decide (ringDistance index s.rings.consumer s.params.completionSize ≤ s.unconsumed)

/-- A completion consumer write (R143): a write that passes clears the interrupt-outstanding flag, and one that consumes
at least one record frees completion space (R147). -/
def State.postConsumer (s : State) (index : Nat) : State :=
  if s.consumerValid index then
    let t := { s with rings.consumer := index, rings.irq := false }
    if ringDistance index s.rings.consumer s.params.completionSize = 0 then t else t.offerResource .completionSpace
  else s.enterFaulted .badPost

/-- A notification consumer write (R144). -/
def State.postNotify (s : State) (index : Nat) : State :=
  if index < s.params.notifySize then s.takeNotifyConsumer index else s.enterFaulted .badPost

/-- A POST write by its selector; outside RUNNING it is ignored (R141). -/
def State.postWrite (s : State) (selector index : Nat) : State :=
  if s.dev.state = .running then
    match selector with
    | 0 => s.postProducer .urgent index
    | 1 => s.postProducer .normal index
    | 2 => s.postConsumer index
    | 3 => s.postNotify index
    | _ => s.enterFaulted .badPost
  else s

/-- PRODUCER_INDEX_POST (R141, R142). -/
def execProducerIndexPost (ring : Ring) (index : BitVec 16) (s : State) : Host.Outcome State Fault Refusal :=
  live (fun t => t.postWrite (ringSelector ring) index.toNat) s

/-- COMPLETION_CONSUMER_POST (R141, R143). -/
def execCompletionConsumerPost (index : BitVec 16) (s : State) : Host.Outcome State Fault Refusal :=
  live (fun t => t.postWrite 2 index.toNat) s

/-- NOTIFICATION_CONSUMER_POST (R141, R144, R169). -/
def execNotificationConsumerPost (index : BitVec 16) (s : State) : Host.Outcome State Fault Refusal :=
  live (fun t => t.postWrite 3 index.toNat) s

/-- BAD_POST_SELECTOR (R141). -/
def execBadPostSelector (selector : BitVec 3) (index : BitVec 16) (s : State) : Host.Outcome State Fault Refusal :=
  live (fun t => t.postWrite selector.toNat index.toNat) s

/-! ## Record fetch (R145, R154) -/

/-- A ring's fetch ends (R145) with host memory as the read found it at the head record's slot (R189). In STOPPING its
outcome is discarded, an error included (R154). -/
def State.fetchEnds (s : State) (ring : Ring) (result : Option (Vector FoundByte 32)) : State :=
  let v := s.subRing ring
  if v.fetching then
    match s.dev.state with
    | .running =>
      match result with
      | some found => s.setSubRing ring { v with
          fetching := false
          copy := some (s.hostMem.load (slotAddr (s.ringBase ring) v.fetch 32) found.toList) }
      | none => (s.setSubRing ring { v with fetching := false }).enterFaulted .ringFetch
    | .stopping => s.setSubRing ring { v with fetching := false }
    | _ => s
  else s

/-- RECORD_FETCH_DONE (R145, R154). -/
def execRecordFetchDone (ring : Ring) (result : Option (Vector FoundByte 32)) (s : State) :
    Host.Outcome State Fault Refusal :=
  live (fun t => t.fetchEnds ring result) s

/-! ## Admission (R117, R146 to R149) -/

/-- A ring is ready: it holds a fetched copy and has no waiting mark (R148). -/
def SubRing.ready (v : SubRing) : Bool := v.copy.isSome && v.waiting.isNone

/-- The ring the arbiter presents (R148). -/
def State.presentedRing (s : State) : Option Ring :=
  match s.rings.urgent.ready, s.rings.normal.ready with
  | true, true => some (if s.rings.urgentRun < Config.urgentRunLimit then .urgent else .normal)
  | true, false => some .urgent
  | false, true => some .normal
  | false, false => none

/-- The urgent run count after a take (R148). -/
def State.runAfterTake (s : State) (ring : Ring) : Nat :=
  match ring with
  | .urgent => if 0 < s.pendingCount .normal then min (s.rings.urgentRun + 1) Config.urgentRunLimit else 0
  | .normal => 0

/-- A record is taken: a slot is reserved, the copy becomes none, the fetch index advances, and the next fetch begins if
records are pending (R139, R145, R146, R148). -/
def State.takeRecord (s : State) (ring : Ring) : State :=
  let v := s.subRing ring
  ({ s.setSubRing ring { v with copy := none, fetch := nextSlot v.fetch (s.ringSize ring) } with
    rings.reserved := s.rings.reserved + 1
    rings.urgentRun := s.runAfterTake ring }).beginFetch ring

/-- A record is taken and refused: its completion is requested at once (R146, stage 2). -/
def State.refuseRecord (s : State) (ring : Ring) (tag : BitVec 16) (status : Status) : State :=
  let t := s.takeRecord ring
  { t with
    rings.posting := t.rings.posting ++ [{ ring := ring, tag := tag, status := status, info := .zero, entry := none }] }

/-- A ring's head waits for a resource (R146, R147). -/
def State.waitFor (s : State) (ring : Ring) (r : Resource) : State :=
  s.setSubRing ring { s.subRing ring with waiting := some r }

/-- A WRITE without INLINE needs a staging slot (R122). -/
def Command.needsStaging : Command → Bool
  | .write _ _ _ (.buffer _) _ => true
  | _ => false

/-- A READ needs a read buffer (R124). -/
def Command.needsBuffer : Command → Bool
  | .read .. => true
  | _ => false

/-- The first lacking resource, in the order OCT entry, staging slot, read buffer (R146, stage 4). -/
def State.lacking (s : State) (c : Command) : Option Resource :=
  if (firstFree s.cmd.oct).isNone then some .octEntry
  else if c.needsStaging && (firstFree s.cmd.staging).isNone then some .stagingSlot
  else if c.needsBuffer && (firstFree s.cmd.buffers).isNone then some .readBuffer
  else none

/-- A WRITE is refused while its region has a pending peer request and is not held (R30). -/
def State.yields (s : State) (c : Command) : Bool :=
  match c with
  | .write r _ _ _ _ => (s.region r).pending.isSome && !(s.region r).held
  | _ => false

/-- A staging slot is taken, and its transfer begins: a DMA read of 4 times the count bytes (R122). -/
def State.takeStaging (s : State) (i : Fin 32) (c : Command) (slot : Option (Fin 8)) : State :=
  match slot, c with
  | some j, .write _ _ count (.buffer addr) _ =>
    { s with
      cmd.staging := s.cmd.staging.set j (some { entry := i, words := [], arrived := false, error := false })
      emitted := .hostRead addr (4 * count) :: s.emitted }
  | _, _ => s

/-- A read buffer is taken (R124). -/
def State.takeBuffer (s : State) (i : Fin 32) (buffer : Option (Fin 4)) : State :=
  match buffer with
  | some j => { s with cmd.buffers := s.cmd.buffers.set j (some { entry := i, capture := none }) }
  | none => s

/-- A WRITE raises its region's staging count (R29). -/
def State.raiseStaging (s : State) (c : Command) : State :=
  match c with
  | .write r _ _ _ _ => s.setRegion r { s.region r with stagingCount := (s.region r).stagingCount + 1 }
  | _ => s

/-- Admission of a record into a free entry (R117). The lowest-numbered free slot or buffer is taken (log entry 22). -/
def State.enrol (s : State) (i : Fin 32) (ring : Ring) (tag : BitVec 16) (c : Command) : State :=
  let slot := if c.needsStaging then firstFree s.cmd.staging else none
  let buffer := if c.needsBuffer then firstFree s.cmd.buffers else none
  let t := s.setEntry i
    { ring := ring, tag := tag, command := c, phase := .queued, staging := slot, buffer := buffer, mark := none,
      info := .zero }
  ((({ t with cmd.queue := t.cmd.queue ++ [i] }).raiseStaging c).takeStaging i c slot).takeBuffer i buffer

/-- Stages 3 and 4 of R146, for a record that passed its checks. -/
def State.admitOrWait (s : State) (ring : Ring) (tag : BitVec 16) (c : Command) : State :=
  match s.lacking c, firstFree s.cmd.oct with
  | none, some i => (s.takeRecord ring).enrol i ring tag c
  | some r, _ => s.waitFor ring r
  | none, none => s.waitFor ring .octEntry

/-- The presentation of a ring's head record, by the stages of R146. -/
def State.presentHead (s : State) (ring : Ring) (bytes : List Byte) : State :=
  if !s.canReserve then s.waitFor ring .completionSpace
  else
    match s.checkRecord bytes with
    | .error status => s.refuseRecord ring (recordTag bytes) status
    | .ok c =>
      if s.yields c then s.refuseRecord ring (recordTag bytes) .yielding
      else s.admitOrWait ring (recordTag bytes) c

/-- The admission arbiter presents a ready ring's head record while the device is RUNNING (R146, R148). -/
def State.presentRecord (s : State) : State :=
  if s.dev.state = .running then
    match s.presentedRing with
    | none => s
    | some ring =>
      match (s.subRing ring).copy with
      | none => s
      | some bytes => s.presentHead ring bytes
  else s

/-- RECORD_PRESENTATION (R146, R148). -/
def execRecordPresentation (s : State) : Host.Outcome State Fault Refusal := live State.presentRecord s

/-! ## Completion posting (R150 to R152) -/

/-- The OCT entry of an admitted command becomes free (R149, R150). -/
def State.freeEntry (s : State) (entry : Option (Fin 32)) : State :=
  match entry with
  | none => s
  | some i => ({ s with cmd.oct := s.cmd.oct.set i none }).offerResource .octEntry

/-- The completion MSI is sent where its flag is clear, and the flag is set (R152). -/
def State.completionMsi (s : State) : State :=
  if s.rings.irq then s else { s with rings.irq := true, emitted := .msi 0 :: s.emitted }

/-- A completion record has been written to slot k (R150). -/
def State.completionPosted (s : State) (c : Completion) (rest : List Completion) : State :=
  (({ s.hostWritten (slotAddr s.params.completionBase s.rings.post 16) (c.bytes s.rings.phase) with
    rings.posting := rest
    rings.post := nextSlot s.rings.post s.params.completionSize
    rings.phase := if nextSlot s.rings.post s.params.completionSize = 0 then !s.rings.phase else s.rings.phase
    rings.reserved := s.rings.reserved - 1 }).freeEntry c.entry).completionMsi

/-- The write of the head of the posting queue ends (R150); an error is the fault RECORD_WRITE (R151). Outside RUNNING
and STOPPING no completion is written (R155): that a write in progress at entry to FAULTED or at a reset puts no bytes
into host memory is a DESIGN CHOICE (log entry 24). -/
def State.completionWriteEnds (s : State) (ok : Bool) : State :=
  match s.rings.posting with
  | [] => s
  | c :: rest =>
    if s.working then (if ok then s.completionPosted c rest else s.enterFaulted .recordWrite) else s

/-- COMPLETION_WRITE_DONE (R150 to R152). -/
def execCompletionWriteDone (ok : Bool) (s : State) : Host.Outcome State Fault Refusal :=
  live (fun t => t.completionWriteEnds ok) s

/-! ## STOP (R154, R179) -/

/-- The Ring Manager stops admission (R154). -/
def State.stopAdmission (s : State) : State :=
  { s with
    rings.urgent.copy := none
    rings.urgent.waiting := none
    rings.normal.copy := none
    rings.normal.waiting := none }

/-- A transfer of an aborted entry is in progress (R154). -/
def State.anyTransfer (s : State) : Bool :=
  (List.finRange 32).any fun i =>
    match s.entry i with
    | some e => decide (e.phase ≠ .completed) && s.transferBusy e
    | none => false

/-- Every completion has been posted, and no transfer or fetch is in progress (R154). -/
def State.ringsDone (s : State) : Bool :=
  s.rings.posting.isEmpty && decide (s.rings.reserved = 0) && !s.anyTransfer && !s.rings.urgent.fetching
    && !s.rings.normal.fetching

/-- The Ring Manager reports, where its condition holds while STOPPING (R154, R179). -/
def State.ringsReport (s : State) : State :=
  if s.dev.state = .stopping ∧ s.ringsDone = true then { s with dev.rmReport := true }.haltIfReported else s

/-- RING_MANAGER_STOP_REPORT (R154, R179). -/
def execRingManagerStopReport (s : State) : Host.Outcome State Fault Refusal := live State.ringsReport s

end Sys2Proof.Machine
end

