-- ==== Sys2Proof/Machine/Device.lean ====
section
/-! DEFINITION. The Device Controller: resets, control commands, the register window, the setup load, STOP and
CLEAR_FAULT (10). -/

namespace Sys2Proof.Machine

/-! ## Cold reset (R175) -/

/-- A frame in transmission is cut off (R113). -/
def State.cutFrame (s : State) : List Emission :=
  match s.framer.transmitting with
  | some _ => .lineCut :: s.emitted
  | none => s.emitted

/-- PERST_N is asserted: the part is held, and the framer falls silent at once (R113, R175; log entry 35). -/
def State.heldInReset (s : State) : State :=
  { s with dev.perst := true, framer := .reset, emitted := s.cutFrame }

/-- COLD_RESET (R175). -/
def execColdReset (s : State) : Host.Outcome State Fault Refusal := .next s.heldInReset

/-- PERST_N is released: every block takes its values after cold reset, and the device is in INIT. The mirror's words
are written by the INIT pass; host memory and the model's own items stay (R175). -/
def State.released (s : State) : State :=
  if s.dev.perst then
    { State.reset with
      mirror := s.mirror, hostMem := s.hostMem, emitted := s.emitted, choices := s.choices, pending := s.pending }
  else s

/-- PERST_N_RELEASE (R175). -/
def execPerstNRelease (s : State) : Host.Outcome State Fault Refusal := .next s.released

/-- The INIT pass ends: every word is 0 with correct parity, and the device state becomes HALTED (R2, R175; log entry
6). -/
def State.initEnds (s : State) : State :=
  if s.dev.state = .init then { s with mirror := [], dev.state := .halted } else s

/-- INIT_DONE (R2, R175). -/
def execInitDone (s : State) : Host.Outcome State Fault Refusal := live State.initEnds s

/-! ## START and the setup load (R176, R178) -/

/-- A control command that is not accepted sets the control-refused flag (R174). -/
def State.refuseControl (s : State) : State := { s with dev.controlRefused := true }

/-- The load ends with a setup error (R176, R177). -/
def State.loadFails (s : State) (e : SetupError) : State := { s with dev.state := .halted, dev.setupError := e }

/-- START is accepted in HALTED: LOADING begins, both codes become NONE, the setup address is taken, and the DMA read of the
setup block begins unless its address is not a multiple of 64 (R174, R176). -/
def State.startWritten (s : State) : State :=
  if s.dev.state = .halted then
    let t := { s with
      dev.controlRefused := false
      dev.state := .loading
      dev.loadAddr := s.dev.setupHi ++ s.dev.setupLo
      dev.faultCode := .none
      dev.setupError := .none }
    if s.dev.setupLo.toNat % 64 = 0 then
      { t with emitted := .hostRead (s.dev.setupHi ++ s.dev.setupLo) 128 :: s.emitted }
    else t.loadFails .address
  else s.refuseControl

/-- START (R174, R176). -/
def execStart (s : State) : Host.Outcome State Fault Refusal := live State.startWritten s

/-- A region's entry after a successful START (R9). -/
def RegionEntry.loaded (d : RegionClass × Bool) : RegionEntry :=
  { RegionEntry.reset with cls := d.1, state := if d.2 then .here else .there }

/-- The Link Controller at a successful START, but for SEEKING (R101). -/
def LinkBlock.started (l : LinkBlock) : LinkBlock := { LinkBlock.reset with epoch := l.epoch, fresh := true }

/-- The Link Framer at a successful START (R114). -/
def FramerBlock.started (f : FramerBlock) : FramerBlock :=
  { f with hello := none, turnCount := 0, quietTimer := none, idleDue := false }

/-- A valid setup block is loaded: each block takes its part, and the device state becomes RUNNING (R178). -/
def State.loadSetup (s : State) (p : SetupParams) : State :=
  let t := { s with
    dev.setup := some p
    dev.state := .running
    regions := p.descriptors.map RegionEntry.loaded
    rings := .reset
    cmd := .reset
    stream := .reset
    sweep := .reset
    link := s.link.started
    framer := s.framer.started
    watch := .reset
    notif := .reset }
  if p.autoLink then t.enterSeeking else t

/-- The DMA read of the setup block ends in LOADING: an error, a failed check, or the load (R176 to R178), with host memory
as the read found it at the address taken by START (R189). -/
def State.setupEnds (s : State) (result : Option (Vector FoundByte 128)) : State :=
  if s.dev.state = .loading then
    match result with
    | none => s.loadFails .hostAccess
    | some found =>
      match validateSetup (s.hostMem.load s.dev.loadAddr found.toList) with
      | .error e => s.loadFails e
      | .ok p => s.loadSetup p
  else s

/-- SETUP_READ_DONE (R176 to R178). -/
def execSetupReadDone (result : Option (Vector FoundByte 128)) (s : State) : Host.Outcome State Fault Refusal :=
  live (fun t => t.setupEnds result) s

/-! ## STOP (R179) -/

/-- What STOP does to the link: a loss with reason STOP, or a REJECTED link becomes OFF (R98, R179). -/
def State.stopLink (s : State) : State :=
  match s.link.state with
  | .off => s
  | .rejected => { s with link.state := .off, framer.hello := none }
  | _ => s.linkLoss .stop

/-- STOP is accepted in RUNNING: STOPPING begins, the link is lost, admission stops and the entries are aborted; a report
whose condition holds already is made at once (R154, R170, R179; log entry 16). -/
def State.stopWritten (s : State) : State :=
  if s.dev.state = .running then
    let t := { s with
      dev.controlRefused := false
      dev.state := .stopping
      dev.rmReport := false
      dev.npReport := false }
    t.stopLink.stopAdmission.abortAll.ringsReport.notifyReport
  else s.refuseControl

/-- STOP (R174, R179). -/
def execStop (s : State) : Host.Outcome State Fault Refusal := live State.stopWritten s

/-! ## RESET (R182) -/

/-- A device reset: every block at its value after device reset, the mirror kept, the device HALTED (R182). LINK_ACT
(log entry 7), host memory and the model's own items stay. -/
def State.deviceReset (s : State) : State :=
  { State.reset with
    dev := { DeviceBlock.reset with state := .halted }
    mirror := s.mirror
    pinLinkAct := s.pinLinkAct
    hostMem := s.hostMem
    emitted := s.cutFrame
    choices := s.choices
    pending := s.pending }

/-- RESET is accepted in every state; in INIT it clears the control-refused flag and nothing else (R174, R175, R182). -/
def State.resetWritten (s : State) : State :=
  if s.dev.state = .init then { s with dev.controlRefused := false } else s.deviceReset

/-- RESET (R174, R175, R182). -/
def execReset (s : State) : Host.Outcome State Fault Refusal := live State.resetWritten s

/-! ## CLEAR_FAULT (R181) -/

/-- A region's entry at CLEAR_FAULT (R10). -/
def RegionEntry.faultCleared (e : RegionEntry) : RegionEntry :=
  { e with stagingCount := 0, claimEntry := none, releaseEntry := none }

/-- A submission ring at CLEAR_FAULT: its indices are kept (R155). -/
def SubRing.faultCleared (v : SubRing) : SubRing := { v with copy := none, fetching := false, waiting := none }

/-- The Ring Manager at CLEAR_FAULT (R155, R156). -/
def RingBlock.faultCleared (b : RingBlock) : RingBlock :=
  { b with
    urgent := b.urgent.faultCleared, normal := b.normal.faultCleared, urgentRun := 0, reserved := 0, posting := [],
    irq := false }

/-- The Link Controller at CLEAR_FAULT (R100, R101). -/
def LinkBlock.faultCleared (l : LinkBlock) : LinkBlock :=
  { LinkBlock.reset with epoch := l.epoch + 1, fresh := l.fresh }

/-- The Link Framer at CLEAR_FAULT (R114). -/
def FramerBlock.faultCleared (f : FramerBlock) : FramerBlock :=
  { FramerBlock.reset with transmitting := f.transmitting, bye := f.bye }

/-- The Notification Poster at CLEAR_FAULT (R170, R171). -/
def NotifyBlock.faultCleared (n : NotifyBlock) : NotifyBlock :=
  { n with queue := [], lost := 0, frozen := false, irq := false, writing := none }

/-- CLEAR_FAULT is accepted in FAULTED: stopped work is emptied, the link is OFF, the epoch rises and the device is HALTED
(R174, R181). The fault code is kept (R173). -/
def State.clearFaultWritten (s : State) : State :=
  if s.dev.state = .faulted then
    { s with
      dev.state := .halted
      dev.controlRefused := false
      regions := Vector.ofFn fun r => (s.region r).faultCleared
      rings := s.rings.faultCleared
      cmd := .reset
      stream := .reset
      sweep := .reset
      link := s.link.faultCleared
      framer := s.framer.faultCleared
      watch.reports := []
      notif := s.notif.faultCleared }
  else s.refuseControl

/-- CLEAR_FAULT (R174, R181). -/
def execClearFault (s : State) : Host.Outcome State Fault Refusal := live State.clearFaultWritten s

/-! ## The register window (R172, R174) -/

/-- A CONTROL write by its command code (R174). -/
def State.controlWrite (s : State) (code : Nat) : State :=
  match code with
  | 1 => s.startWritten
  | 2 => s.stopWritten
  | 3 => s.resetWritten
  | 4 => s.clearFaultWritten
  | _ => s.refuseControl

/-- CONTROL_INVALID_CODE (R174). -/
def execControlInvalidCode (value : Word) (s : State) : Host.Outcome State Fault Refusal :=
  live (fun t => t.controlWrite (value.toNat % 256)) s

/-- A whole write of the register at an offset (R172, 11.2). -/
def State.writeRegister (s : State) (offset : Nat) (value : Word) : State :=
  match offset with
  | 0x004 => s.controlWrite (value.toNat % 256)
  | 0x00C => { s with dev.setupLo := value }
  | 0x010 => { s with dev.setupHi := value }
  | 0x014 => s.postWrite (value.toNat / 65536 % 8) (value.toNat % 65536)
  | _ => s

/-- The registers that a write covers whole, lowest first, with the values written (R172). -/
def wholeWords (offset : Nat) (data : List Byte) : List (Nat × Word) :=
  (List.range (data.length / 4)).filterMap fun k =>
    if (offset + 3) / 4 * 4 + 4 * k + 4 ≤ offset + data.length then
      some ((offset + 3) / 4 * 4 + 4 * k, BitVec.ofNat 32 (fieldAt data ((offset + 3) / 4 * 4 + 4 * k - offset) 4))
    else none

/-- A write of the register window: each register it covers whole takes its value, lowest address first; the rest is
ignored (R172; log entry 27). -/
def State.writeWindow (s : State) (offset : Nat) (data : List Byte) : State :=
  (wholeWords offset data).foldl (fun t x => t.writeRegister x.1 x.2) s

/-- REGISTER_WRITE (R172). -/
def execRegisterWrite (offset : BitVec 12) (data : List Byte) (s : State) : Host.Outcome State Fault Refusal :=
  live (fun t => t.writeWindow offset.toNat data) s

end Sys2Proof.Machine
end

