-- ==== Sys2Proof/Machine/Sweep.lean ====
section
/-! DEFINITION. The Sweep Controller: the sweep and its timer, receive ages, and received snapshots (04). -/

namespace Sys2Proof.Machine

/-! ## The sweep (R67, R69, R71) -/

/-- The cursor search from a region: the first region that is CYCLIC and HERE (R69). -/
def State.sweepTarget (s : State) (first : Nat) : Option (Fin 64) :=
  (List.finRange 64).find? fun r =>
    decide (first ≤ r.val) && decide ((s.region r).cls = .cyclic) && decide ((s.region r).state = .here)

/-- The cursor holds a region, and its snapshot is offered (R69). -/
def State.offerSnapshot (s : State) (r : Fin 64) : State := { s with sweep.cursor := some r, sweep.offered := some r }

/-- No sweep is in progress and no snapshot is offered; the snapshot turn count is 0 then (R71, R110; log entry 33). -/
def State.noSweep (s : State) : State :=
  { s with sweep.cursor := none, sweep.offered := none, framer.turnCount := 0 }

/-- A sweep starts: its number, and the search from region 0. A sweep that visits no region ends in the same step, with
no overrun taken during it (R67, R71). -/
def State.startSweep (s : State) : State :=
  let t := { s with sweep.number := s.sweep.number + 1 }
  match s.sweepTarget 0 with
  | some r => t.offerSnapshot r
  | none => { t.noSweep with sweep.overrun := false }

/-- A sweep ends. Its pending-sweep flag is set just where an overrun was taken while it was in progress (R71). -/
def State.endSweep (s : State) : State :=
  if s.sweep.pending then { s.noSweep with sweep.pending := false }.startSweep
  else { s.noSweep with sweep.overrun := false }

/-- The cursor search after an offer was taken or withdrawn, from the region above (R69 to R71). -/
def State.sweepOn (s : State) (r : Fin 64) : State :=
  match s.sweepTarget (r.val + 1) with
  | some next => s.offerSnapshot next
  | none => s.endSweep

/-! ## The sweep timer (R66 to R68, R75, R76) -/

/-- An expiry during a sweep is an overrun; its event is submitted apart (R68). -/
def State.overrunTaken (s : State) : State :=
  { s.raise .sweepOverruns with sweep.pending := true, sweep.overrun := true }

/-- The SWEEP_OVERRUN event of an expiry, if it submits one (R68). -/
def State.overrunEvents (s : State) : List Event :=
  if s.sweep.cursor.isSome ∧ s.sweep.overrun = false then [.sweepOverrun (saturatingSucc (s.counter .sweepOverruns))]
  else []

/-- What an expiry does to the sweep: a start or an overrun (R67, R68). -/
def State.sweepTick (s : State) : State := if s.sweep.cursor.isSome then s.overrunTaken else s.startSweep

/-- The receive age of an entry rises at an expiry (R75). -/
def RegionEntry.ages (e : RegionEntry) : Bool :=
  decide (e.cls = .cyclic) && decide (e.state = .there) && decide (e.age < Config.ageMax)

/-- The rise of an entry's receive age makes it stale (R76). -/
def RegionEntry.growsStale (limit : Nat) (e : RegionEntry) : Bool :=
  e.ages && decide (limit ≠ 0) && decide (e.age + 1 = limit) && !e.stale

/-- An entry after an expiry (R75, R76). -/
def RegionEntry.aged (limit : Nat) (e : RegionEntry) : RegionEntry :=
  if e.ages then
    { e with
      age := e.age + 1
      lastSweep := if e.age + 1 = Config.ageMax then none else e.lastSweep
      stale := e.stale || e.growsStale limit }
  else e

/-- The CYCLIC_STALE events of an expiry, in ascending order of region (R76, R164). -/
def State.staleEvents (s : State) : List Event :=
  (List.finRange 64).filterMap fun r =>
    if (s.region r).growsStale s.params.staleLimit then some (.cyclicStale r) else none

/-- Groups of events join the queue, the groups in a free order (log entry 13). -/
def State.eventGroups (s : State) (groups : List (List Event)) : State :=
  ((freeOrder s.choices groups).flatten).foldl State.event (s.chosen groups.length)

/-- The sweep timer expires: it restarts, a sweep starts or is overrun, and the receive ages rise (R66 to R68, R75,
R76). An expiry finds a stopped timer outside SYNCING and UP and is not taken. -/
def State.sweepExpires (s : State) : State :=
  match s.sweep.timer with
  | none => s
  | some _ =>
    let t := { s with sweep.timer := some s.params.sweepPeriod }.sweepTick
    (t.mapRegions fun _ e => e.aged s.params.staleLimit).eventGroups
      ([s.overrunEvents, s.staleEvents].filter fun g => !g.isEmpty)

/-- SWEEP_TIMER_EXPIRY (R67, R68, R75, R76). -/
def execSweepTimerExpiry (s : State) : Host.Outcome State Fault Refusal := live State.sweepExpires s

/-! ## Received snapshots (R73, R74) -/

/-- A sweep number is newer than the last applied (R73). -/
def newerSweep (last : Option (BitVec 16)) (sweep : BitVec 16) : Bool :=
  match last with
  | none => true
  | some n => decide (1 ≤ (sweep - n).toNat) && decide ((sweep - n).toNat ≤ 32767)

/-- The tests of R73 on a region's entry. -/
def RegionEntry.acceptsSnapshot (e : RegionEntry) (sweep : BitVec 16) (generation : BitVec 32) : Bool :=
  decide (e.cls = .cyclic) && (decide (e.state = .there) || decide (e.state = .claiming))
    && decide (generation = e.generation) && newerSweep e.lastSweep sweep

/-- An accepted snapshot is applied (R74). -/
def State.applySnapshot (s : State) (r : Fin 64) (sweep : BitVec 16) (words : List Word) : State :=
  let t := (s.apply r 0 words .peer).setRegion r
    { s.region r with lastSweep := some sweep, age := 0, stale := false }
  if (s.region r).stale then t.event (.cyclicFresh r) else t

/-- A SNAPSHOT is tested and applied, or discarded and counted (R73, R74). -/
def State.takeSnapshot (s : State) (region : Byte) (sweep : BitVec 16) (generation : BitVec 32) (words : List Word) :
    State :=
  match regionOfByte region with
  | none => s.raise .snapshotsStale
  | some r =>
    if (s.region r).acceptsSnapshot sweep generation then s.applySnapshot r sweep words else s.raise .snapshotsStale

end Sys2Proof.Machine
end

