-- ==== Sys2Proof/Machine/Framer.lean ====
section
/-! DEFINITION. The Link Framer: the transmit arbiter, the frame in transmission and the receive assembly (06). -/

namespace Sys2Proof.Machine

/-! ## The offered sequenced frame (R49) -/

/-- The place in the Transmit List of the frame offered to the framer: the oldest marked for resending, or else the
oldest unsent one while the window is open (R49). -/
def State.offeredIndex (s : State) : Option Nat :=
  if s.streaming then
    match s.stream.list.findIdx? fun t => t.resend with
    | some k => some k
    | none => if s.sentCount < s.params.window then s.stream.list.findIdx? fun t => !t.sent else none
  else none

/-! ## The choice (R108, R109) -/

/-- A sequenced frame goes before an offered snapshot whose turn has not come (R109, line 3). -/
def State.sequencedTurn (s : State) : Bool :=
  s.sweep.offered.isNone || decide (s.framer.turnCount < Config.snapshotTurnLimit)

/-- The sequenced frame of line 3 of R109, if that line applies. -/
def State.sequencedChoice (s : State) : Option FrameChoice :=
  if s.sequencedTurn then s.offeredIndex.map .sequenced else none

/-- Lines 2 to 7 of R109. -/
def State.sessionChoice (s : State) : Option FrameChoice :=
  if s.link.confirmDue ∧ s.framer.hello.isSome = true then some .hello
  else
    match s.sequencedChoice with
    | some c => some c
    | none =>
      if s.stream.ackDue then some .ack
      else
        match s.sweep.offered with
        | some r => some (.snapshot r)
        | none => if s.framer.idleDue then some .idle else none

/-- A BYE is ready: one waits, and in FAULTED it is the BYE of R100, which the entry handed in place of any earlier one
where the link had a peer (R81, R107, R113, R183). An earlier BYE that waits in FAULTED stays and is ready again after
CLEAR_FAULT (R114; DEDUCED, log entry 39). -/
def State.byeReady (s : State) : Bool :=
  s.framer.bye.isSome && (decide (s.dev.state ≠ .faulted) || s.link.state.hasPeer)

/-- The arbiter's choice. A ready BYE goes first in every state; no other frame is sent outside RUNNING and STOPPING,
where the link is OFF or the part FAULTED (R81, R100, R108, R109, R113). -/
def State.chooseFrame (s : State) : Option FrameChoice :=
  if s.byeReady then some .bye
  else if s.working then
    if s.streaming then s.sessionChoice
    else if s.framer.hello.isSome then some .hello
    else none
  else none

/-! ## The take (R50, R70, R110, R111) -/

/-- The framer takes a frame: it is in transmission with its epoch, FRAMES_SENT rises, LINK_ACT pulses, and in a running
session idle-due clears and the quiet timer restarts (R111, R112). A BYE taken in FAULTED with the link state still
showing SYNCING or UP restarts no timer: R111 restarts it in SYNCING and UP, R113 and R114 stop it at entry to FAULTED,
and the model holds to the stop (DESIGN CHOICE, log entry 42). -/
def State.transmit (s : State) (epoch : BitVec 16) (body : FrameBody) : State :=
  { s.raise .framesSent with
    framer.transmitting := some { epoch := epoch, body := body }
    framer.idleDue := if s.streaming && s.working then false else s.framer.idleDue
    framer.quietTimer := if s.streaming && s.working then some s.params.helloInterval else s.framer.quietTimer
    pinLinkAct := true }

/-- A BYE carries the epoch it was handed with (R111). -/
def State.takeBye (s : State) : State :=
  match s.framer.bye with
  | some epoch => { s with framer.bye := none }.transmit epoch .bye
  | none => s

/-- The waiting HELLO is taken; a confirming one clears the confirm-due flag (R111). -/
def State.takeHello (s : State) : State :=
  match s.framer.hello with
  | some h =>
    { s with framer.hello := none, link.confirmDue := if h.joined then false else s.link.confirmDue }.transmit
      s.link.epoch (.hello h)
  | none => s

/-- The turn count after the take of a sequenced frame (R110). -/
def State.turnAfterSequenced (s : State) : Nat :=
  if s.sweep.offered.isSome then min (s.framer.turnCount + 1) Config.snapshotTurnLimit else s.framer.turnCount

/-- The offered sequenced frame is taken with the changes of R50. -/
def State.takeListed (s : State) (k : Nat) : State :=
  match s.stream.list[k]? with
  | some t =>
    { s with
      stream.list := s.stream.list.set k { t with sent := true, resend := false }
      stream.ackDue := false
      stream.timer := some (s.stream.timer.getD s.params.ackTimeout)
      framer.turnCount := s.turnAfterSequenced }.transmit s.link.epoch (.sequenced t.seq s.ackValue t.content)
  | none => s

/-- An ACK is taken with the acknowledgement value as it stands (R51, R111). -/
def State.takeAck (s : State) : State := { s with stream.ackDue := false }.transmit s.link.epoch (.ack s.ackValue)

/-- The frame of a snapshot capture (R70). -/
def State.snapshotBody (s : State) (r : Fin 64) (words : List Word) : FrameBody :=
  .snapshot (regionByte r) s.sweep.number (s.region r).generation words

/-- A snapshot of a region that is CYCLIC and HERE is captured and taken, the turn count becomes 0, and the cursor
search goes on (R70, R110). A parity error stops it, and the part enters FAULTED (R7). -/
def State.sendSnapshot (s : State) (r : Fin 64) : State :=
  match s.capture r 0 64 with
  | none => s.enterFaulted .mirrorParity
  | some words =>
    ({ (s.transmit s.link.epoch (s.snapshotBody r words)) with framer.turnCount := 0 }).sweepOn r

/-- The snapshot passes the test at the take (R70). -/
def State.snapshotStands (s : State) (r : Fin 64) : Bool :=
  decide ((s.region r).cls = .cyclic) && decide ((s.region r).state = .here)

/-- A chosen snapshot whose region has left HERE is withdrawn and the search goes on; the arbiter chooses again in the
same step (R70, R109). The next region searched out is HERE, so one withdrawal is the most a step holds. -/
def State.settleOffer (s : State) : State :=
  match s.chooseFrame with
  | some (.snapshot r) => if s.snapshotStands r then s else s.sweepOn r
  | _ => s

/-- The chosen frame is taken. -/
def State.takeChoice (s : State) (c : FrameChoice) : State :=
  match c with
  | .bye => s.takeBye
  | .hello => s.takeHello
  | .sequenced k => s.takeListed k
  | .ack => s.takeAck
  | .snapshot r => s.sendSnapshot r
  | .idle => s.transmit s.link.epoch .idle

/-- With the transmit pair free, the arbiter chooses a frame and takes it (R107). -/
def State.takeFrame (s : State) : State :=
  if s.framer.transmitting.isSome then s
  else
    match s.settleOffer.chooseFrame with
    | some c => s.settleOffer.takeChoice c
    | none => s.settleOffer

/-- FRAME_TAKE (R107 to R111). -/
def execFrameTake (s : State) : Host.Outcome State Fault Refusal := live State.takeFrame s

/-- The end delimiter of the frame in transmission has been sent, and the pair is free (R102, R107). -/
def State.transmitEnds (s : State) : State :=
  match s.framer.transmitting with
  | some f => { s with framer.transmitting := none, emitted := .lineFrame f.bytes :: s.emitted }
  | none => s

/-- TRANSMIT_END (R107). -/
def execTransmitEnd (s : State) : Host.Outcome State Fault Refusal := live State.transmitEnds s

/-! ## The quiet timer and LINK_ACT (R111, R112) -/

/-- The quiet timer expires: an IDLE is due, and the timer is not restarted until the next take (R112). -/
def State.quietExpires (s : State) : State :=
  match s.framer.quietTimer with
  | some _ => { s with framer.quietTimer := none, framer.idleDue := true }
  | none => s

/-- QUIET_TIMER_EXPIRY (R112). -/
def execQuietTimerExpiry (s : State) : Host.Outcome State Fault Refusal := live State.quietExpires s

/-- LINK_ACT falls 10 ms after the latest pulse (R111). -/
def State.linkActFalls (s : State) : State := { s with pinLinkAct := false }

/-- LINK_ACT_TIMEOUT (R111). -/
def execLinkActTimeout (s : State) : Host.Outcome State Fault Refusal := live State.linkActFalls s

/-! ## The receive assembly (R102, R105, R106) -/

/-- Collecting begins with no bytes (R102). -/
def Assembly.fresh : Assembly := { bytes := [], discard := false }

/-- One data byte (R102). -/
def Assembly.push (a : Assembly) (b : Byte) : Assembly :=
  if a.bytes.length < Config.maxFrameBytes then { a with bytes := a.bytes ++ [b] } else { a with discard := true }

/-- The checks of R105 on a frame that has ended. -/
def Assembly.judge (a : Assembly) (cut : Bool) : Option Frame := if cut || a.discard then none else checkFrame a.bytes

/-- A frame that has ended is counted bad, or counted received, pulses LINK_ACT and is held for handing (R105, R106). -/
def State.frameEnded (s : State) (a : Assembly) (cut : Bool) : State :=
  match a.judge cut with
  | none => s.raise .framesBad
  | some f =>
    { s.raise .framesReceived with
      pinLinkAct := true
      framer.heldFrames := s.framer.heldFrames ++ [f] }

/-- A start delimiter: a frame being collected is ended as cut, and a new one begins (R102). The receive pair is ignored
outside RUNNING and STOPPING (R106). -/
def State.frameBegins (s : State) : State :=
  if s.working then
    match s.framer.assembly with
    | none => { s with framer.assembly := some .fresh }
    | some a => { s.frameEnded a true with framer.assembly := some .fresh }
  else s

/-- The frame being received ends at its end delimiter, or is cut by a start delimiter (R102, R105). -/
def State.frameEnds (s : State) (cut : Bool) : State :=
  if cut then s.frameBegins
  else if s.working then
    match s.framer.assembly with
    | none => s
    | some a => { s.frameEnded a false with framer.assembly := none }
  else s

/-- A change of the assembly while it is collecting (R102). -/
def State.collecting (s : State) (f : Assembly → Assembly) : State :=
  if s.working then { s with framer.assembly := s.framer.assembly.map f } else s

/-- START_DELIMITER (R102). -/
def execStartDelimiter (s : State) : Host.Outcome State Fault Refusal := live State.frameBegins s

/-- RECEIVE_FRAME_END (R102, R105). -/
def execReceiveFrameEnd (cut : Bool) (s : State) : Host.Outcome State Fault Refusal := live (fun t => t.frameEnds cut) s

/-- DATA_BYTE (R102). -/
def execDataByte (b : Byte) (s : State) : Host.Outcome State Fault Refusal :=
  live (fun t => t.collecting fun a => a.push b) s

/-- CODE_ERROR (R102). -/
def execCodeError (s : State) : Host.Outcome State Fault Refusal :=
  live (fun t => t.collecting fun a => { a with discard := true }) s

end Sys2Proof.Machine
end

