-- ==== Sys2Proof/Machine/HandOver.lean ====
section
/-! DEFINITION. Ownership commands and received hand-over frames (02, R15). -/

namespace Sys2Proof.Machine

/-! ## CLAIM and RELEASE (R23, R25) -/

/-- Word 0 of a CLAIM that finds the region HERE: the "already" flag (11.5). -/
def alreadyFlag : Word := 256#32

/-- A CLAIM starts: the region enters CLAIMING with its claim entry, an OWN_REQ enters the list, and the command leaves
the head (R23). -/
def State.claimStarts (s : State) (i : Fin 32) (e : OctEntry) (r : Fin 64) (noWait : Bool) : State :=
  ((s.enqueue (.ownReq (regionByte r) (s.region r).generation noWait) none).setRegion r
    { s.region r with state := .claiming, claimEntry := some i }).awaitEvent i e

/-- The checks of CLAIM, in the order of R23. -/
def State.claimEffect (s : State) (i : Fin 32) (e : OctEntry) (r : Fin 64) (noWait : Bool) : State :=
  if (s.region r).cls = .off then s.finishHead i .regionOff (s.summary r)
  else
    match (s.region r).state with
    | .here => s.finishHead i .ok (s.summary r alreadyFlag)
    | .claiming => s.finishHead i .inProgress (s.summary r)
    | .granting => s.finishHead i .inProgress (s.summary r)
    | .there =>
      if s.link.state ≠ .up then s.finishHead i .linkNotUp (s.summary r)
      else if (s.region r).generation = Config.genLimit then s.finishHead i .genLimit (s.summary r)
      else if s.outstanding r then s.finishHead i .inProgress (s.summary r)
      else s.claimStarts i e r noWait

/-- CLAIM at the head (R23). -/
def State.claimAtHead (s : State) : State :=
  s.atHead fun i e =>
    match e.command with
    | .claim r noWait => s.claimEffect i e r noWait
    | _ => s

/-- CLAIM (R23). -/
def execClaim (s : State) : Host.Outcome State Fault Refusal := live State.claimAtHead s

/-- A RELEASE starts: the grant step, and then its release entry; the command leaves the head (R25). A parity error in
the grant capture stops it where it stands (R7, R32). -/
def State.releaseStarts (s : State) (i : Fin 32) (e : OctEntry) (r : Fin 64) : State :=
  (s.grantStep r).andThen fun t => (t.setRegion r { t.region r with releaseEntry := some i }).awaitEvent i e

/-- The checks of RELEASE, in the order of R25. -/
def State.releaseEffect (s : State) (i : Fin 32) (e : OctEntry) (r : Fin 64) : State :=
  if (s.region r).cls = .off then s.finishHead i .regionOff (s.summary r)
  else
    match (s.region r).state with
    | .claiming => s.finishHead i .inProgress (s.summary r)
    | .granting => s.finishHead i .inProgress (s.summary r)
    | .there => s.finishHead i .notOwner (s.summary r)
    | .here =>
      if s.link.state ≠ .up then s.finishHead i .linkNotUp (s.summary r)
      else if (s.region r).generation = Config.genLimit then s.finishHead i .genLimit (s.summary r)
      else if s.outstanding r then s.finishHead i .inProgress (s.summary r)
      else s.releaseStarts i e r

/-- RELEASE at the head (R25). -/
def State.releaseAtHead (s : State) : State :=
  s.atHead fun i e =>
    match e.command with
    | .release r => s.releaseEffect i e r
    | _ => s

/-- RELEASE (R25). -/
def execRelease (s : State) : Host.Outcome State Fault Refusal := live State.releaseAtHead s

/-! ## HOLD and UNHOLD (R27, R28) -/

/-- A region's held mark is set or cleared. -/
def State.setHeld (s : State) (r : Fin 64) (held : Bool) : State := s.setRegion r { s.region r with held := held }

/-- HOLD sets the held mark of a region that is HERE (R27). -/
def State.holdAtHead (s : State) : State :=
  s.atHead fun i e =>
    match e.command with
    | .hold r =>
      if (s.region r).cls = .off then s.finishHead i .regionOff (s.summary r)
      else if (s.region r).state ≠ .here then s.finishHead i .notOwner (s.summary r)
      else (s.setHeld r true).finishHead i .ok ((s.setHeld r true).summary r)
    | _ => s

/-- HOLD (R27). -/
def execHold (s : State) : Host.Outcome State Fault Refusal := live State.holdAtHead s

/-- UNHOLD on a held region that is HERE: the mark is cleared, and a pending request is granted while the staging count
is 0 (R28). -/
def State.unholdEffect (s : State) (r : Fin 64) : State :=
  if (s.region r).held then
    if (s.region r).pending.isSome ∧ (s.region r).stagingCount = 0 then (s.setHeld r false).grantStep r
    else s.setHeld r false
  else s

/-- UNHOLD at the head (R28). -/
def State.unholdAtHead (s : State) : State :=
  s.atHead fun i e =>
    match e.command with
    | .unhold r =>
      if (s.region r).cls = .off then s.finishHead i .regionOff (s.summary r)
      else if (s.region r).state ≠ .here then s.finishHead i .notOwner (s.summary r)
      else (s.unholdEffect r).andThen fun t => t.finishHead i .ok (t.summary r)
    | _ => s

/-- UNHOLD (R28). -/
def execUnhold (s : State) : Host.Outcome State Fault Refusal := live State.unholdAtHead s

/-! ## SET_CLASS (R15) -/

/-- A region's entry after SET_CLASS (R15). -/
def RegionEntry.reclassed (e : RegionEntry) (cls : RegionClass) (here : Bool) : RegionEntry :=
  { e with
    cls := cls
    state := if here then .here else .there
    held := false
    pending := none
    stale := !here
    claimEntry := none
    releaseEntry := none
    lastSweep := none
    age := 0 }

/-- The link states in which SET_CLASS completes LINK_STATE (R15). -/
def LinkState.runsSession : LinkState → Bool
  | .seeking => true
  | .joining => true
  | .syncing => true
  | .up => true
  | _ => false

/-- SET_CLASS checks the link state, then the region's state, and then sets the entry (R15). A CLAIMING region cannot
meet it; it is treated as GRANTING is (log entry 26). -/
def State.setClassEffect (s : State) (i : Fin 32) (r : Fin 64) (cls : RegionClass) (here : Bool) : State :=
  if s.link.state.runsSession then s.finishHead i .linkState (s.summary r)
  else if (s.region r).state = .granting ∨ (s.region r).state = .claiming then s.finishHead i .inProgress (s.summary r)
  else
    let t := s.setRegion r ((s.region r).reclassed cls here)
    t.finishHead i .ok (t.summary r)

/-- SET_CLASS at the head (R15). -/
def State.setClassAtHead (s : State) : State :=
  s.atHead fun i e =>
    match e.command with
    | .setClass r cls here => s.setClassEffect i r cls here
    | _ => s

/-- SET_CLASS (R15). -/
def execSetClass (s : State) : Host.Outcome State Fault Refusal := live State.setClassAtHead s

/-! ## Received hand-over frames (R33, R36 to R40) -/

/-- The reason of a denial made at once or at expiry: HELD if the region is held, BUSY otherwise (R33, R35). -/
def RegionEntry.busyReason (e : RegionEntry) : DenyReason := if e.held then .held else .busy

/-- An OWN_REQ for a region in HERE: the first line of R33 that applies. -/
def State.requestInHere (s : State) (r : Fin 64) (generation : BitVec 32) (noWait : Bool) : State :=
  let e := s.region r
  if s.outstanding r then s.protocolError .reqRepeated (some (regionByte r))
  else if e.pending.isSome then s.protocolError .reqRepeated (some (regionByte r))
  else if generation ≠ e.generation then (s.protocolError .reqGeneration (some (regionByte r))).deny r .notOwner
  else if e.generation = Config.genLimit then s.deny r .genLimit
  else if e.held = false ∧ e.stagingCount = 0 then s.grantStep r
  else if noWait then s.deny r e.busyReason
  else if s.params.deferralLimit = 0 then s.deny r e.busyReason
  else s.setRegion r { e with pending := some { noWait := noWait, timer := some s.params.deferralLimit } }

/-- An OWN_REQ dispatched to the Ownership Controller (R33, R36). In CLAIMING a denial waits until no hand-over frame of
this part is outstanding, as R22 asks (log entry 32). -/
def State.takeRequest (s : State) (r : Fin 64) (generation : BitVec 32) (noWait : Bool) : State :=
  match (s.region r).state with
  | .here => s.requestInHere r generation noWait
  | .there =>
    if s.outstanding r then s.protocolError .reqRepeated (some (regionByte r)) else s.deny r .notOwner
  | .claiming =>
    let t := s.protocolError .reqInClaiming (some (regionByte r))
    if s.outstanding r then t else t.deny r .notOwner
  | .granting => s

/-- The grant's content does not suit the region's class (R37). -/
def grantContentWrong (cls : RegionClass) (content : Option (List Word)) : Bool :=
  match cls with
  | .cyclic => content.isNone
  | .acked => content.isSome
  | .off => false

/-- An accepted grant makes the region HERE at the next generation and clears its stale flag; for a CYCLIC region its
words are applied first (R38, R39). -/
def State.grantArrives (s : State) (r : Fin 64) (content : Option (List Word)) : State :=
  let t := match content with
    | some words => s.apply r 0 words .peer
    | none => s
  t.setRegion r
    { (s.region r).withGeneration (nextGeneration (s.region r).generation) with
      state := .here, stale := false, claimEntry := none }

/-- An accepted grant for a region in CLAIMING completes its CLAIM OK (R38). -/
def State.grantAnswersClaim (s : State) (r : Fin 64) (content : Option (List Word)) : State :=
  let t := s.grantArrives r content
  match (s.region r).claimEntry with
  | some i => t.requestCompletion i .ok (t.summary r)
  | none => t

/-- An OWN_GRANT dispatched to the Ownership Controller: the first line of R37 that applies. -/
def State.takeGrant (s : State) (r : Fin 64) (generation : BitVec 32) (content : Option (List Word)) : State :=
  let e := s.region r
  if e.state = .here ∨ e.state = .granting then s.protocolError .grantUnexpected (some (regionByte r))
  else if generation ≠ e.generation + 1 ∨ e.generation = Config.genLimit then
    s.protocolError .grantGeneration (some (regionByte r))
  else if grantContentWrong e.cls content then s.protocolError .grantContent (some (regionByte r))
  else if e.state = .claiming then s.grantAnswersClaim r content
  else (s.grantArrives r content).event (.ownershipArrived r true)

/-- An OWN_DENY dispatched to the Ownership Controller (R40). Its reason is copied as it stands (R186). -/
def State.takeDeny (s : State) (r : Fin 64) (reason : Byte) : State :=
  if (s.region r).state = .claiming then
    let t := s.setRegion r { s.region r with state := .there, claimEntry := none }
    match (s.region r).claimEntry with
    | some i => t.requestCompletion i .denied (t.summary r (reason.setWidth 32))
    | none => t
  else s

/-! ## The deferral timer (R35) -/

/-- The deferral timer of a pending request expires: the request is denied (R35). An expiry finds a stopped timer where
the request is gone or the part has entered FAULTED (R31), and is not taken. -/
def State.deferralExpires (s : State) (r : Fin 64) : State :=
  match (s.region r).pending with
  | some { noWait := _, timer := some _ } =>
    ((s.deny r (s.region r).busyReason).setRegion r { s.region r with pending := none }).event (.deferralExpired r)
  | _ => s

/-- DEFERRAL_TIMER_EXPIRY (R35). -/
def execDeferralTimerExpiry (region : Fin 64) (s : State) : Host.Outcome State Fault Refusal :=
  live (fun t => t.deferralExpires region) s

end Sys2Proof.Machine
end

