-- ==== Sys2Proof/Machine/Link.lean ====
section
/-! DEFINITION. The Link Controller: frames handed on by the framer, the epoch filter, HELLO, BYE and IDLE, and the hello
and silence timers (05). -/

namespace Sys2Proof.Machine

/-! ## Frames held for handing (R106) -/

/-- The oldest held frame is handed on, if it is of the kind the command names. Frames are taken while the device is
RUNNING or STOPPING (R81, R106). -/
def State.takeHeld (s : State) {α : Type} (kind : Frame → Option α) (f : State → α → State) : State :=
  if s.working then
    match s.framer.heldFrames with
    | [] => s
    | fr :: rest =>
      match kind fr with
      | some a => f { s with framer.heldFrames := rest } a
      | none => s
  else s

/-- The epoch filter (R94): in JOINING, SYNCING and UP a frame with another epoch is discarded and counted, and one of
the recorded peer restarts the silence timer and goes on. In OFF, SEEKING and REJECTED it is discarded (R81). -/
def State.filtered (s : State) (epoch : BitVec 16) (f : State → State) : State :=
  if s.link.state.hasPeer then
    if s.heardEpoch = some epoch then f s.restartSilence else s.raise .epochMismatch
  else s

/-! ## HELLO (R87, R89, R95) -/

/-- The HELLO is of the recorded peer. -/
def State.isPeer (s : State) (epoch : BitVec 16) (h : HelloBody) : Bool :=
  decide (s.link.peer = some { nodeId := h.nodeId, epoch := epoch })

/-- A HELLO that waits, with another epoch in its heard field. -/
def HelloBody.naming (h : HelloBody) (epoch : BitVec 16) : HelloBody := { h with heard := some epoch }

/-- A new peer met in JOINING (R89, third row). A HELLO that waits names the new epoch when it is sent (log entry
18). -/
def State.newPeer (s : State) (epoch : BitVec 16) (h : HelloBody) : State :=
  { s with
    link.peer := some { nodeId := h.nodeId, epoch := epoch }
    link.peerContent := some h.content
    framer.hello := s.framer.hello.map fun w => HelloBody.naming w epoch }.restartSilence

/-- A HELLO taken in JOINING (R89). -/
def State.helloInJoining (s : State) (epoch : BitVec 16) (h : HelloBody) : State :=
  if s.isPeer epoch h then
    let t := { s with link.peerContent := some h.content }.restartSilence
    if h.heard = some s.link.epoch then t.completeJoin h.content else t
  else
    match s.parameterFailure h with
    | some reason => s.enterRejected reason
    | none => s.newPeer epoch h

/-- The peer is still JOINING: it is answered by a confirming HELLO, unless one is due (R95, first row). -/
def State.confirmAgain (s : State) : State :=
  if s.link.confirmDue then s else { s.handConfirmingHello with link.confirmDue := true }

/-- A HELLO taken in SYNCING or UP (R95). -/
def State.helloInSession (s : State) (epoch : BitVec 16) (h : HelloBody) : State :=
  if s.isPeer epoch h ∧ h.heard = some s.link.epoch then
    if h.joined then s.restartSilence else s.restartSilence.confirmAgain
  else (s.linkLoss .peerRestart).andThen fun t => t.helloInSeeking epoch h

/-- A HELLO is taken by the link state (R81). -/
def State.takeHelloFrame (s : State) (epoch : BitVec 16) (h : HelloBody) : State :=
  match s.link.state with
  | .seeking => s.helloInSeeking epoch h
  | .joining => s.helloInJoining epoch h
  | .syncing => s.helloInSession epoch h
  | .up => s.helloInSession epoch h
  | .off => s
  | .rejected => s

/-- A HELLO's epoch and body. -/
def Frame.asHello (f : Frame) : Option (BitVec 16 × HelloBody) :=
  match f.body with
  | .hello h => some (f.epoch, h)
  | _ => none

/-- HELLO_RECEIVED (R81, R87, R89, R95). -/
def execHelloReceived (s : State) : Host.Outcome State Fault Refusal :=
  live (fun t => t.takeHeld Frame.asHello fun u x => u.takeHelloFrame x.1 x.2) s

/-! ## IDLE and BYE (R94, R96) -/

/-- An IDLE's epoch. -/
def Frame.asIdle (f : Frame) : Option (BitVec 16) :=
  match f.body with
  | .idle => some f.epoch
  | _ => none

/-- IDLE_RECEIVED (R94). -/
def execIdleReceived (s : State) : Host.Outcome State Fault Refusal :=
  live (fun t => t.takeHeld Frame.asIdle fun u epoch => u.filtered epoch id) s

/-- A BYE's epoch. -/
def Frame.asBye (f : Frame) : Option (BitVec 16) :=
  match f.body with
  | .bye => some f.epoch
  | _ => none

/-- BYE_RECEIVED: a BYE of the recorded peer takes a link loss (R96). -/
def execByeReceived (s : State) : Host.Outcome State Fault Refusal :=
  live (fun t => t.takeHeld Frame.asBye fun u epoch => u.filtered epoch fun v => v.linkLoss .peerLeft) s

/-! ## Timers (R85, R97) -/

/-- The hello timer expires in SEEKING or JOINING: a HELLO is handed and the timer restarts (R85). -/
def State.helloExpires (s : State) : State :=
  match s.link.helloTimer, s.link.state with
  | some _, .seeking => s.handSeekingHello.restartHello
  | some _, .joining => s.handJoiningHello.restartHello
  | _, _ => s

/-- HELLO_TIMER_EXPIRY (R85). -/
def execHelloTimerExpiry (s : State) : Host.Outcome State Fault Refusal := live State.helloExpires s

/-- The silence timer expires in JOINING, SYNCING or UP (R97). -/
def State.silenceExpires (s : State) : State :=
  if s.link.silenceTimer.isSome ∧ s.link.state.hasPeer = true then s.linkLoss .silence else s

/-- SILENCE_TIMER_EXPIRY (R97). -/
def execSilenceTimerExpiry (s : State) : Host.Outcome State Fault Refusal := live State.silenceExpires s

end Sys2Proof.Machine
end

