-- ==== Sys2Proof/Machine/Stream.lean ====
section
/-! DEFINITION. The Stream Controller: received sequenced frames and their dispatch, ACK, SNAPSHOT, and the
retransmission timer (03, 04). -/

namespace Sys2Proof.Machine

/-! ## The receiving half (R57, R58) -/

/-- A frame taken in order: the expected number advances and ack-due is set, whatever the dispatch finds (R57, R58). -/
def State.takenInOrder (s : State) : State :=
  { s with stream.expected := s.stream.expected + 1, stream.ackDue := true }

/-- A sequenced frame that passed the epoch filter in SYNCING or UP: its acknowledgement field first, then its sequence
number against the expected one (R52, R57). -/
def State.takeSequenced (s : State) (seq acked : BitVec 8) (dispatch : State → State) : State :=
  (s.processAck acked).andThen fun t =>
    if (seq - t.stream.expected).toNat = 0 then dispatch t.takenInOrder
    else if (seq - t.stream.expected).toNat ≤ 127 then t.raise .outOfOrder
    else { t.raise .duplicates with stream.ackDue := true }

/-- The checks of R59 on a region number. -/
def State.onRegion (s : State) (region : Byte) (f : Fin 64 → State) : State :=
  match regionOfByte region with
  | none => s.protocolError .regionRange (some region)
  | some r => if (s.region r).cls = .off then s.protocolError .regionOff (some region) else f r

/-- A frame that goes to the Stream Controller: the epoch filter, and in JOINING no further (R94). -/
def State.toStream (s : State) (epoch : BitVec 16) (f : State → State) : State :=
  s.filtered epoch fun t => if t.streaming then f t else t

/-! ## Kinds -/

/-- A sequenced frame with its epoch, its two numbers and its content. -/
def Frame.asSequenced (f : Frame) : Option (BitVec 16 × BitVec 8 × BitVec 8 × SeqContent) :=
  match f.body with
  | .sequenced seq acked content => some (f.epoch, seq, acked, content)
  | _ => none

/-- A sequenced frame whose content is of one kind. -/
def Frame.sequencedOf {α : Type} (kind : SeqContent → Option α) (f : Frame) :
    Option (BitVec 16 × BitVec 8 × BitVec 8 × α) :=
  match f.asSequenced with
  | some (epoch, seq, acked, content) => (kind content).map fun a => (epoch, seq, acked, a)
  | none => none

/-- The held sequenced frame of one kind passes the filter and the receiving half and is dispatched (R57, R58, R94). -/
def State.receiveSequenced (s : State) {α : Type} (kind : SeqContent → Option α) (dispatch : State → α → State) :
    State :=
  s.takeHeld (Frame.sequencedOf kind) fun t x =>
    t.toStream x.1 fun u => u.takeSequenced x.2.1 x.2.2.1 fun v => dispatch v x.2.2.2

/-! ## UPDATE (R60) -/

/-- What the receiver reads of an UPDATE: last_of_command has its effect at the sender (R60). -/
structure ReceivedUpdate where
  region : Byte
  offset : Byte
  words  : List Word
  last   : Bool
deriving DecidableEq, Repr

/-- The UPDATE's items; `last` says that it carries both the refresh and the last_of_region flag (R60). -/
def SeqContent.asUpdate : SeqContent → Option ReceivedUpdate
  | .update region offset words _ refresh lastOfRegion => some ⟨region, offset, words, refresh && lastOfRegion⟩
  | _ => none

/-- An UPDATE is applied; the last refresh frame of a region clears its stale flag (R60). -/
def State.applyUpdate (s : State) (r : Fin 64) (u : ReceivedUpdate) : State :=
  let t := s.apply r u.offset.toNat u.words .peer
  if u.last then t.setRegion r { t.region r with stale := false } else t

/-- An UPDATE dispatched: the checks of R59 and R60, in order. -/
def State.takeUpdate (s : State) (u : ReceivedUpdate) : State :=
  s.onRegion u.region fun r =>
    if 64 < u.offset.toNat + u.words.length then s.protocolError .updateRange (some u.region)
    else if (s.region r).cls ≠ .acked then s.protocolError .updateClass (some u.region)
    else if (s.region r).state = .there ∨ (s.region r).state = .claiming then s.applyUpdate r u
    else s.protocolError .updateState (some u.region)

/-- UPDATE_RECEIVED (R57 to R60, R94). -/
def execUpdateReceived (s : State) : Host.Outcome State Fault Refusal :=
  live (fun t => t.receiveSequenced SeqContent.asUpdate State.takeUpdate) s

/-! ## Hand-over frames (R33, R36 to R40) -/

/-- The OWN_REQ's region, generation and no_wait flag. -/
def SeqContent.asRequest : SeqContent → Option (Byte × BitVec 32 × Bool)
  | .ownReq region generation noWait => some (region, generation, noWait)
  | _ => none

/-- OWN_REQ_RECEIVED (R33, R36, R59). -/
def execOwnReqReceived (s : State) : Host.Outcome State Fault Refusal :=
  live (fun t => t.receiveSequenced SeqContent.asRequest fun u x =>
    u.onRegion x.1 fun r => u.takeRequest r x.2.1 x.2.2) s

/-- The OWN_GRANT's region, new generation and content. -/
def SeqContent.asGrant : SeqContent → Option (Byte × BitVec 32 × Option (List Word))
  | .ownGrant region generation content => some (region, generation, content)
  | _ => none

/-- OWN_GRANT_RECEIVED (R37 to R39, R59). -/
def execOwnGrantReceived (s : State) : Host.Outcome State Fault Refusal :=
  live (fun t => t.receiveSequenced SeqContent.asGrant fun u x =>
    u.onRegion x.1 fun r => u.takeGrant r x.2.1 x.2.2) s

/-- The OWN_DENY's region and reason. -/
def SeqContent.asDenial : SeqContent → Option (Byte × Byte)
  | .ownDeny region reason => some (region, reason)
  | _ => none

/-- OWN_DENY_RECEIVED (R40, R59). -/
def execOwnDenyReceived (s : State) : Host.Outcome State Fault Refusal :=
  live (fun t => t.receiveSequenced SeqContent.asDenial fun u x => u.onRegion x.1 fun r => u.takeDeny r x.2) s

/-! ## SYNC_DONE (R93) -/

/-- A SYNC_DONE has no content. -/
def SeqContent.asSync : SeqContent → Option Unit
  | .syncDone => some ()
  | _ => none

/-- A SYNC_DONE dispatched: the sync-received flag is set and the link may move to UP, or it is the protocol error
SYNC_REPEATED (R93). With the flag clear in UP, which cannot be met, it is ignored (log entry 26). -/
def State.takeSync (s : State) : State :=
  if s.link.syncReceived then s.protocolError .syncRepeated none
  else if s.link.state = .syncing then { s with link.syncReceived := true }.tryUp
  else s

/-- SYNC_DONE_RECEIVED (R93). -/
def execSyncDoneReceived (s : State) : Host.Outcome State Fault Refusal :=
  live (fun t => t.receiveSequenced SeqContent.asSync fun u _ => u.takeSync) s

/-! ## ACK and SNAPSHOT (R52, R73) -/

/-- An ACK's epoch and value. -/
def Frame.asAck (f : Frame) : Option (BitVec 16 × BitVec 8) :=
  match f.body with
  | .ack value => some (f.epoch, value)
  | _ => none

/-- ACK_RECEIVED (R52, R94). -/
def execAckReceived (s : State) : Host.Outcome State Fault Refusal :=
  live (fun t => t.takeHeld Frame.asAck fun u x => u.toStream x.1 fun v => v.processAck x.2) s

/-- The items of a SNAPSHOT with its epoch. -/
def Frame.asSnapshot (f : Frame) : Option (BitVec 16 × Byte × BitVec 16 × BitVec 32 × List Word) :=
  match f.body with
  | .snapshot region sweep generation words => some (f.epoch, region, sweep, generation, words)
  | _ => none

/-- SNAPSHOT_RECEIVED (R73, R74, R94). -/
def execSnapshotReceived (s : State) : Host.Outcome State Fault Refusal :=
  live (fun t => t.takeHeld Frame.asSnapshot fun u x =>
    u.toStream x.1 fun v => v.takeSnapshot x.2.1 x.2.2.1 x.2.2.2.1 x.2.2.2.2) s

/-! ## The retransmission timer (R55, R56) -/

/-- An expiry counts toward the retry limit, but for one in SYNCING before the session's first acknowledgement
(R55). -/
def State.expiryCounts (s : State) : Bool := !(decide (s.link.state = .syncing) && !s.stream.sessionAcked)

/-- Every sent frame is marked for resending (R55). -/
def TxEntry.again (t : TxEntry) : TxEntry := if t.sent then { t with resend := true } else t

/-- The retransmission timer expires: a link loss where the retry limit is reached, or else a round of resending (R55,
R56). It runs in SYNCING and UP only (R54, R98). -/
def State.retransmissionExpires (s : State) : State :=
  if s.streaming = false ∨ s.stream.timer = none then s
  else
    let t := s.raise .retransmitRounds
    if s.expiryCounts ∧ s.stream.retryCount = s.params.retryLimit then t.linkLoss .retry
    else
      { t with
        stream.retryCount := if s.expiryCounts then s.stream.retryCount + 1 else s.stream.retryCount
        stream.list := s.stream.list.map TxEntry.again
        stream.timer := some s.params.ackTimeout }

/-- RETRANSMISSION_TIMER_EXPIRY (R55, R56). -/
def execRetransmissionTimerExpiry (s : State) : Host.Outcome State Fault Refusal := live State.retransmissionExpires s

end Sys2Proof.Machine
end

