-- ==== Sys2Proof/Machine/Dispatch.lean ====
section
/-! DEFINITION. One arm for each command of the table. -/

namespace Sys2Proof.Machine

/-- The command's effect on everything but the queue. -/
def exec (i : Instr) (s : State) : Host.Outcome State Fault Refusal :=
  match i with
  | .coldReset => Sys2Proof.Machine.execColdReset s
  | .perstNRelease => Sys2Proof.Machine.execPerstNRelease s
  | .initDone => Sys2Proof.Machine.execInitDone s
  | .start => Sys2Proof.Machine.execStart s
  | .stop => Sys2Proof.Machine.execStop s
  | .reset => Sys2Proof.Machine.execReset s
  | .clearFault => Sys2Proof.Machine.execClearFault s
  | .controlInvalidCode value => Sys2Proof.Machine.execControlInvalidCode value s
  | .registerWrite offset data => Sys2Proof.Machine.execRegisterWrite offset data s
  | .producerIndexPost ring index => Sys2Proof.Machine.execProducerIndexPost ring index s
  | .completionConsumerPost index => Sys2Proof.Machine.execCompletionConsumerPost index s
  | .notificationConsumerPost index => Sys2Proof.Machine.execNotificationConsumerPost index s
  | .badPostSelector selector index => Sys2Proof.Machine.execBadPostSelector selector index s
  | .setupReadDone result => Sys2Proof.Machine.execSetupReadDone result s
  | .recordFetchDone ring result => Sys2Proof.Machine.execRecordFetchDone ring result s
  | .recordPresentation => Sys2Proof.Machine.execRecordPresentation s
  | .nop => Sys2Proof.Machine.execNop s
  | .write => Sys2Proof.Machine.execWrite s
  | .read => Sys2Proof.Machine.execRead s
  | .fence => Sys2Proof.Machine.execFence s
  | .stats => Sys2Proof.Machine.execStats s
  | .queryRegion => Sys2Proof.Machine.execQueryRegion s
  | .claim => Sys2Proof.Machine.execClaim s
  | .release => Sys2Proof.Machine.execRelease s
  | .hold => Sys2Proof.Machine.execHold s
  | .unhold => Sys2Proof.Machine.execUnhold s
  | .setClass => Sys2Proof.Machine.execSetClass s
  | .watchSet => Sys2Proof.Machine.execWatchSet s
  | .watchClear => Sys2Proof.Machine.execWatchClear s
  | .linkUp => Sys2Proof.Machine.execLinkUp s
  | .linkDown => Sys2Proof.Machine.execLinkDown s
  | .stagingTransferDone slot result => Sys2Proof.Machine.execStagingTransferDone slot result s
  | .readOutputDone buffer ok => Sys2Proof.Machine.execReadOutputDone buffer ok s
  | .statsOutputDone ok => Sys2Proof.Machine.execStatsOutputDone ok s
  | .completionWriteDone ok => Sys2Proof.Machine.execCompletionWriteDone ok s
  | .frameTake => Sys2Proof.Machine.execFrameTake s
  | .transmitEnd => Sys2Proof.Machine.execTransmitEnd s
  | .receiveFrameEnd cut => Sys2Proof.Machine.execReceiveFrameEnd cut s
  | .helloReceived => Sys2Proof.Machine.execHelloReceived s
  | .updateReceived => Sys2Proof.Machine.execUpdateReceived s
  | .ownReqReceived => Sys2Proof.Machine.execOwnReqReceived s
  | .ownGrantReceived => Sys2Proof.Machine.execOwnGrantReceived s
  | .ownDenyReceived => Sys2Proof.Machine.execOwnDenyReceived s
  | .syncDoneReceived => Sys2Proof.Machine.execSyncDoneReceived s
  | .ackReceived => Sys2Proof.Machine.execAckReceived s
  | .snapshotReceived => Sys2Proof.Machine.execSnapshotReceived s
  | .idleReceived => Sys2Proof.Machine.execIdleReceived s
  | .byeReceived => Sys2Proof.Machine.execByeReceived s
  | .retransmissionTimerExpiry => Sys2Proof.Machine.execRetransmissionTimerExpiry s
  | .deferralTimerExpiry region => Sys2Proof.Machine.execDeferralTimerExpiry region s
  | .sweepTimerExpiry => Sys2Proof.Machine.execSweepTimerExpiry s
  | .helloTimerExpiry => Sys2Proof.Machine.execHelloTimerExpiry s
  | .silenceTimerExpiry => Sys2Proof.Machine.execSilenceTimerExpiry s
  | .quietTimerExpiry => Sys2Proof.Machine.execQuietTimerExpiry s
  | .linkActTimeout => Sys2Proof.Machine.execLinkActTimeout s
  | .watchEvaluation => Sys2Proof.Machine.execWatchEvaluation s
  | .notificationTake => Sys2Proof.Machine.execNotificationTake s
  | .notificationWriteDone ok => Sys2Proof.Machine.execNotificationWriteDone ok s
  | .ringManagerStopReport => Sys2Proof.Machine.execRingManagerStopReport s
  | .notificationStopReport => Sys2Proof.Machine.execNotificationStopReport s
  | .startDelimiter => Sys2Proof.Machine.execStartDelimiter s
  | .dataByte b => Sys2Proof.Machine.execDataByte b s
  | .codeError => Sys2Proof.Machine.execCodeError s

end Sys2Proof.Machine
end

