-- ==== Sys2Proof/Safety.lean ====
section
/-! DEFINITION. The words in which claims are made: when a command stands at the head, what a completion, an event and a
fault entry leave behind, and the invariants of a safe run. -/

namespace Sys2Proof.Machine

/-! ## Situations -/

/-- The part is RUNNING and not held in cold reset. -/
def State.Runs (s : State) : Prop := s.dev.perst = false ∧ s.dev.state = .running

/-- The part is not held in cold reset, and takes frames and posts records: RUNNING or STOPPING. -/
def State.Works (s : State) : Prop := s.dev.perst = false ∧ s.working = true

/-- A queued command stands at the head of the Execution Queue in a RUNNING part, with the rest of the queue behind
it. -/
def State.HeadReady (s : State) (i : Fin 32) (rest : List (Fin 32)) (e : OctEntry) : Prop :=
  s.Runs ∧ s.cmd.queue = i :: rest ∧ s.cmd.oct[i] = some e ∧ e.phase = .queued

/-- A checked frame is the oldest one held for handing. -/
def State.Holds (s : State) (f : Frame) (rest : List Frame) : Prop :=
  s.Works ∧ s.framer.heldFrames = f :: rest

/-- The state as the epoch filter passes a frame on: the frame is off the framer's hands and the silence timer
restarted (R94, R97). -/
def State.passed (s : State) (rest : List Frame) : State :=
  { s with framer.heldFrames := rest, link.silenceTimer := some (4 * s.params.helloInterval) }

/-- A sequenced frame of the recorded peer is handed on in SYNCING or UP, and `u` is the state after its acknowledgement
field has been processed, which did not end in a fault (R52, R57, R94). -/
def State.Receives (s : State) (seq acked : BitVec 8) (content : SeqContent) (u : State) : Prop :=
  s.streaming = true ∧ u.dev.state ≠ .faulted ∧
    ∃ epoch rest, s.Holds { epoch := epoch, body := .sequenced seq acked content } rest ∧
      s.heardEpoch = some epoch ∧ u = (s.passed rest).processAck acked

/-- The state after a frame taken in order, before its dispatch (R58). -/
def State.inOrder (u : State) : State := { u with stream.expected := u.stream.expected + 1, stream.ackDue := true }

/-- The command that hands on a frame of each sequenced kind. -/
def SeqContent.command : SeqContent → Instr
  | .update .. => .updateReceived
  | .ownReq .. => .ownReqReceived
  | .ownGrant .. => .ownGrantReceived
  | .ownDeny .. => .ownDenyReceived
  | .syncDone => .syncDoneReceived

/-- The command that hands on a frame of each kind. -/
def FrameBody.command : FrameBody → Instr
  | .hello _ => .helloReceived
  | .sequenced _ _ content => content.command
  | .ack _ => .ackReceived
  | .snapshot .. => .snapshotReceived
  | .idle => .idleReceived
  | .bye => .byeReceived

/-- The frame is a HELLO. -/
def FrameBody.isHello : FrameBody → Bool
  | .hello _ => true
  | _ => false

/-! ## What steps leave behind -/

/-- An OCT entry whose completion has been requested: it holds no slot, no buffer and no fence mark (R121 to
R124, R137). -/
def OctEntry.finished (e : OctEntry) : OctEntry := { e with phase := .completed, staging := none, buffer := none, mark := none }

/-- The completion of an entry joins the posting queue (R150). -/
def State.withCompletion (s : State) (i : Fin 32) (e : OctEntry) (status : Status) (info : Info) : State :=
  { s with
    cmd.oct := s.cmd.oct.set i (some e.finished)
    rings.posting := s.rings.posting ++
      [{ ring := e.ring, tag := e.tag, status := status, info := info, entry := some i }] }

/-- The head command completes and leaves the Execution Queue. -/
def State.headDone (s : State) (i : Fin 32) (rest : List (Fin 32)) (e : OctEntry) (status : Status) (info : Info) :
    State :=
  { s.withCompletion i e status info with cmd.queue := rest }

/-- The head command leaves the Execution Queue and awaits its event. -/
def State.headWaits (s : State) (i : Fin 32) (rest : List (Fin 32)) (e : OctEntry) : State :=
  { s with cmd.oct := s.cmd.oct.set i (some { e with phase := .awaitingEvent }), cmd.queue := rest }

/-- The completion of the command in an entry, if the entry is in use. -/
def State.completionOf (s : State) (i : Fin 32) (status : Status) (info : Info) : Option Completion :=
  (s.entry i).map fun e => { ring := e.ring, tag := e.tag, status := status, info := info, entry := some i }

/-- The completions of the WRITE commands whose last UPDATE frame is one of these, in the order of the frames (R53,
R63). -/
def State.writesOf (s : State) (frames : List TxEntry) (status : Status) : List Completion :=
  frames.filterMap fun f => match f.content, f.owner with
    | .update _ _ _ true _ _, some i => (s.entry i).bind fun e => s.completionOf i status e.info
    | _, _ => none

/-- An event joins the submission queue (R164). -/
def State.withEvent (s : State) (e : Event) : State := { s with notif.queue := s.notif.queue ++ [.event e] }

/-- A counter has risen by 1, or stays at its top (R183). -/
def State.counted (s : State) (c : Counter) : State :=
  { s with
    dev.counters := s.dev.counters.set c.index
      (if s.dev.counters[c.index] = 4294967295#32 then 4294967295#32 else s.dev.counters[c.index] + 1) }

/-- A protocol error has been counted and reported (R21, R61, R93). -/
def State.withProtocolError (s : State) (kind : ProtocolKind) (region : Option Byte) : State :=
  (s.counted .protocolErrors).withEvent (.protocolError kind region)

/-- A control frame has entered the Transmit List (R48). -/
def State.withControl (s : State) (content : SeqContent) : State :=
  { s with
    stream.list := s.stream.list ++
      [{ content := content, seq := s.stream.nextSeq, sent := false, resend := false, owner := none }]
    stream.nextSeq := s.stream.nextSeq + 1 }

/-- One region's entry is changed. -/
def State.withRegion (s : State) (r : Fin 64) (e : RegionEntry) : State := { s with regions := s.regions.set r e }

/-- The grant step has handed a region over, with the content captured (R32). -/
def State.granted (s : State) (r : Fin 64) (content : Option (List Word)) : State :=
  (s.withControl (.ownGrant (regionByte r) ((s.region r).generation + 1) content)).withRegion r
    { s.region r with state := .granting, held := false, pending := none }

/-- What every WRITE leaves as it takes its effect: the staging count is 1 lower, its slot is free and the marks of
rings that wait for a slot are cleared (R125, R123, R147). -/
def State.unstaged (s : State) (r : Fin 64) (e : OctEntry) : State :=
  { (s.withRegion r { s.region r with stagingCount := (s.region r).stagingCount - 1 }).freeStaging e.staging with
    stream.waitWrite := false }

/-- Aborting an entry at STOP takes it out of the Execution Queue and requests its completion ABORTED (R154). -/
def State.aborted (s : State) (i : Fin 32) (e : OctEntry) : State :=
  { s with cmd.queue := s.cmd.queue.filter fun k => k ≠ i }.withCompletion i e .aborted .zero

/-- A frame has been taken for transmission: it is counted, LINK_ACT pulses, and in a running session idle-due is cleared
and the quiet timer restarted (R111). -/
def State.sending (s : State) (epoch : BitVec 16) (body : FrameBody) : State :=
  { s.counted .framesSent with
    framer.transmitting := some { epoch := epoch, body := body }
    framer.idleDue := if s.streaming ∧ s.working then false else s.framer.idleDue
    framer.quietTimer := if s.streaming ∧ s.working then some s.params.helloInterval else s.framer.quietTimer
    pinLinkAct := true }

/-- The part has entered FAULTED: the code and the fault MSI, every timer stopped, the framer's work dropped and a BYE
handed where the link had a peer; rings, commands, lists, mirror and notifications stand as they stood (R180, R155, R136,
R31, R43, R64, R79, R100, R113, R162, R170). -/
def State.HasFaulted (s t : State) (code : FaultCode) : Prop :=
  t.dev.state = .faulted ∧ t.dev.faultCode = code ∧ t.emitted = .msi 2 :: s.emitted ∧
  t.dev.counters = s.dev.counters ∧ t.dev.setup = s.dev.setup ∧
  t.stream.timer = none ∧ t.sweep.timer = none ∧ t.link.helloTimer = none ∧ t.link.silenceTimer = none ∧
  t.framer.quietTimer = none ∧ (∀ r q, (t.region r).pending = some q → q.timer = none) ∧
  t.framer.assembly = none ∧ t.framer.heldFrames = [] ∧ t.framer.hello = none ∧
  t.framer.transmitting = s.framer.transmitting ∧
  t.framer.bye = (if s.link.state = .joining ∨ s.link.state = .syncing ∨ s.link.state = .up then some s.link.epoch
    else s.framer.bye) ∧
  t.link.state = s.link.state ∧ t.link.epoch = s.link.epoch ∧ t.stream.list = s.stream.list ∧ t.cmd = s.cmd ∧
  t.rings.posting = s.rings.posting ∧ t.rings.reserved = s.rings.reserved ∧ t.rings.post = s.rings.post ∧
  t.rings.consumer = s.rings.consumer ∧ t.rings.phase = s.rings.phase ∧
  t.rings.urgent.producer = s.rings.urgent.producer ∧ t.rings.urgent.fetch = s.rings.urgent.fetch ∧
  t.rings.normal.producer = s.rings.normal.producer ∧ t.rings.normal.fetch = s.rings.normal.fetch ∧
  t.mirror = s.mirror ∧ t.notif = s.notif ∧ t.watch = s.watch ∧ t.hostMem = s.hostMem ∧
  (∀ r, (t.region r).state = (s.region r).state ∧ (t.region r).generation = (s.region r).generation) ∧
  t.pending = s.pending

/-! ## Legal inputs (11.3, 11.4) -/

/-- The bytes `first` to `last` of a record are zero. -/
def zeroBetween (b : List Byte) (first last : Nat) : Prop := ∀ k, first ≤ k → k ≤ last → byteAt b k = 0#8

/-- In the byte at an offset no bit from `low` up to bit 7 is set. -/
def clearFrom (b : List Byte) (offset low : Nat) : Prop := ∀ k, low ≤ k → k < 8 → flagAt b offset k = false

/-- The 16-bit field at an offset, its two bytes least significant first (R185). -/
def halfAt (b : List Byte) (offset : Nat) : BitVec 16 := byteAt b (offset + 1) ++ byteAt b offset

/-- The word at an offset, its four bytes least significant first (R185). -/
def wordAt (b : List Byte) (offset : Nat) : Word := halfAt b (offset + 2) ++ halfAt b offset

/-- The host address at an offset, its eight bytes least significant first (R185). -/
def addrAt (b : List Byte) (offset : Nat) : Addr := wordAt b (offset + 4) ++ wordAt b offset

/-- What R115, R158 and 11.4 reserve for a record's opcode is zero, and the opcode is one of the fifteen: stage 1 of
R116. -/
def WellCoded (b : List Byte) : Prop :=
  zeroBetween b 0x07 0x0F ∧
  match (byteAt b 0).toNat with
  | 1 | 4 | 14 | 15 => clearFrom b 1 0 ∧ zeroBetween b 4 6 ∧ zeroBetween b 0x10 0x1F
  | 2 => clearFrom b 1 2 ∧ (flagAt b 1 0 = false → zeroBetween b 0x18 0x1F)
  | 3 => clearFrom b 1 0 ∧ zeroBetween b 0x18 0x1F
  | 5 => clearFrom b 1 1 ∧ zeroBetween b 4 6 ∧ zeroBetween b 0x18 0x1F
  | 6 | 8 | 9 | 10 => clearFrom b 1 0 ∧ zeroBetween b 5 6 ∧ zeroBetween b 0x10 0x1F
  | 7 => clearFrom b 1 1 ∧ zeroBetween b 5 6 ∧ zeroBetween b 0x10 0x1F
  | 11 => clearFrom b 1 1 ∧ zeroBetween b 6 6 ∧ zeroBetween b 0x10 0x1F
  | 12 => clearFrom b 1 3 ∧ zeroBetween b 0x19 0x1F
  | 13 => clearFrom b 1 0 ∧ zeroBetween b 4 6 ∧ zeroBetween b 0x10 0x17 ∧ zeroBetween b 0x19 0x1F
  | _ => False

/-- Region, offset and count of a record name words of one region. -/
def RangeInRegion (b : List Byte) : Prop :=
  (byteAt b 4).toNat ≤ 63 ∧ (byteAt b 5).toNat ≤ 63 ∧ 1 ≤ (byteAt b 6).toNat ∧ (byteAt b 6).toNat ≤ 64 ∧
    (byteAt b 5).toNat + (byteAt b 6).toNat ≤ 64

/-- A record's buffer is aligned and its transfer stays inside the address space. -/
def BufferInSpace (b : List Byte) (bytes : Nat) : Prop :=
  (addrAt b 0x10).toNat % 4 = 0 ∧ (addrAt b 0x10).toNat + bytes ≤ 2 ^ 64

/-- The checks of stage 2 of R116, with those of R14 and R158, on the fields that a record's opcode uses. -/
def InRange (sweepPeriod : Nat) (b : List Byte) : Prop :=
  match (byteAt b 0).toNat with
  | 2 => RangeInRegion b ∧ (flagAt b 1 0 = true → (byteAt b 6).toNat ≤ 4) ∧
      (flagAt b 1 0 = false → BufferInSpace b (4 * (byteAt b 6).toNat))
  | 3 => RangeInRegion b ∧ BufferInSpace b (4 * (byteAt b 6).toNat)
  | 5 => BufferInSpace b 48
  | 6 | 7 | 8 | 9 | 10 => (byteAt b 4).toNat ≤ 63
  | 11 => (byteAt b 4).toNat ≤ 63 ∧ (byteAt b 5).toNat ≤ 2 ∧ ((byteAt b 5).toNat = 2 → sweepPeriod ≠ 0)
  | 12 => RangeInRegion b ∧ (byteAt b 0x18).toNat ≤ 15 ∧
      (flagAt b 1 0 = true → ∀ k, (wordAt b 0x14).getLsbD k = true → (wordAt b 0x10).getLsbD k = true)
  | 13 => (byteAt b 0x18).toNat ≤ 15
  | _ => True

/-- The check that a record fails where its presentation refuses it with a status (R116). -/
def State.RecordCheck (s : State) (b : List Byte) : Status → Prop
  | .badCommand => WellCoded b
  | .badRange => InRange s.params.sweepPeriod b
  | .regionOff => (byteAt b 0).toNat ∈ [2, 3, 7, 8, 9, 10, 12] →
      ∀ r : Fin 64, r.val = (byteAt b 4).toNat → (s.region r).cls ≠ .off
  | _ => True

/-- The command that a record spells by the layout of 11.4. -/
def commandOf (b : List Byte) : Command :=
  let region : Fin 64 := Fin.ofNat 64 (byteAt b 4).toNat
  let offset := (byteAt b 5).toNat
  let count := (byteAt b 6).toNat
  let slot : Fin 16 := Fin.ofNat 16 (byteAt b 0x18).toNat
  match (byteAt b 0).toNat with
  | 2 => .write region offset count
      (if flagAt b 1 0 then .inline ((List.range count).map fun k => wordAt b (0x10 + 4 * k))
        else .buffer (addrAt b 0x10)) (flagAt b 1 1)
  | 3 => .read region offset count (addrAt b 0x10)
  | 4 => .fence
  | 5 => .stats (addrAt b 0x10) (flagAt b 1 0)
  | 6 => .queryRegion region
  | 7 => .claim region (flagAt b 1 0)
  | 8 => .release region
  | 9 => .hold region
  | 10 => .unhold region
  | 11 => .setClass region (if offset = 0 then .off else if offset = 1 then .acked else .cyclic) (flagAt b 1 0)
  | 12 => .watchSet slot
      { region := region, first := offset, last := offset + count - 1, isMatch := flagAt b 1 0, both := flagAt b 1 1,
        oneShot := flagAt b 1 2, mask := wordAt b 0x10, value := wordAt b 0x14 }
  | 13 => .watchClear slot
  | 14 => .linkUp
  | 15 => .linkDown
  | _ => .nop

/-- The check of R177 that gives a setup error; ADDRESS, HOST_ACCESS and NONE belong to none of them. -/
def SetupCheck (b : List Byte) : SetupError → Prop
  | .version => byteAt b 0 = 1#8
  | .reserved => clearFrom b 1 1 ∧ zeroBetween b 0x0E 0x0F ∧ zeroBetween b 0x38 0x3F ∧
      ∀ r : Fin 64, clearFrom b (0x40 + r.val) 3
  | .ringBase => ∀ o ∈ [0x18, 0x20, 0x28, 0x30], (addrAt b o).toNat % 64 = 0
  | .ringSize => ∀ o ∈ [0x10, 0x12, 0x14, 0x16], ∃ k, 4 ≤ k ∧ k ≤ 12 ∧ (halfAt b o).toNat = 2 ^ k
  | .nodeId => 1 ≤ (halfAt b 2).toNat ∧ (halfAt b 2).toNat ≤ 65534
  | .window => 1 ≤ (byteAt b 4).toNat ∧ (byteAt b 4).toNat ≤ 32
  | .ackTimeout => 1 ≤ (byteAt b 5).toNat
  | .retryLimit => 1 ≤ (byteAt b 6).toNat ∧ (byteAt b 6).toNat ≤ 15
  | .helloInterval => 1 ≤ (byteAt b 7).toNat
  | .sweepPeriod => (halfAt b 8).toNat ≤ 1000 ∧
      ((∃ r : Fin 64, flagAt b (0x40 + r.val) 0 = false ∧ flagAt b (0x40 + r.val) 1 = true) → halfAt b 8 ≠ 0)
  | .policy => (byteAt b 0x0B).toNat ≤ 2
  | .region => ∀ r : Fin 64, flagAt b (0x40 + r.val) 0 = false ∨ flagAt b (0x40 + r.val) 1 = false
  | .none => True
  | .hostAccess => True
  | .address => True

/-- The parameters stand in a setup block where 11.3 puts them. -/
def SetupParams.LaidOut (p : SetupParams) (b : List Byte) : Prop :=
  p.autoLink = flagAt b 1 0 ∧ p.nodeId = halfAt b 2 ∧ p.window = (byteAt b 4).toNat ∧
  p.ackTimeout = (byteAt b 5).toNat ∧ p.retryLimit = (byteAt b 6).toNat ∧ p.helloInterval = (byteAt b 7).toNat ∧
  p.sweepPeriod = (halfAt b 8).toNat ∧ p.staleLimit = (byteAt b 0x0A).toNat ∧
  p.policy = (if byteAt b 0x0B = 0 then .dropNew else if byteAt b 0x0B = 1 then .overwriteOld else .freeze) ∧
  p.deferralLimit = (halfAt b 0x0C).toNat ∧
  p.urgentSize = (halfAt b 0x10).toNat ∧ p.normalSize = (halfAt b 0x12).toNat ∧
  p.completionSize = (halfAt b 0x14).toNat ∧ p.notifySize = (halfAt b 0x16).toNat ∧
  p.urgentBase = addrAt b 0x18 ∧ p.normalBase = addrAt b 0x20 ∧ p.completionBase = addrAt b 0x28 ∧
  p.notifyBase = addrAt b 0x30 ∧
  ∀ r : Fin 64, p.descriptors[r] =
    (if flagAt b (0x40 + r.val) 1 then .cyclic else if flagAt b (0x40 + r.val) 0 then .acked else .off,
      flagAt b (0x40 + r.val) 2)

/-! ## Legal frames (06) -/

/-- The bytes between two delimiters pass the three checks of R105: at least 8 bytes and the CRC-32 of all but the last
four in those four; a kind code of 11.7; and the length that R103 permits for the kind, with the word count that an UPDATE
carries. -/
def FramePasses (b : List Byte) : Prop :=
  8 ≤ b.length ∧ wordAt b (b.length - 4) = crc32 (b.take (b.length - 4)) ∧
  match (byteAt b 0).toNat with
  | 1 => b.length = 296
  | 2 => 1 ≤ (byteAt b 7).toNat ∧ (byteAt b 7).toNat ≤ 16 ∧ b.length = 16 + 4 * (byteAt b 7).toNat
  | 3 => b.length = 20
  | 4 => b.length = 16 ∨ b.length = 272
  | 5 => b.length = 16
  | 6 => b.length = 12
  | 7 | 9 | 10 => b.length = 8
  | 8 => b.length = 272
  | _ => False

/-! ## The refresh (R92) -/

/-- The parts of a refresh in order: four steps of 16 words for each region that is sent. -/
def refreshParts (sends : Fin 64 → Bool) : List (Fin 64 × Nat) :=
  ((List.finRange 64).filter sends).flatMap fun r => (List.range 4).map fun k => (r, k)

/-- The parts that a refresh cursor has still to send: of its region from its step on, if that region is still ACKED and
HERE, and of every such region above. -/
def State.refreshRest (s : State) (c : RefreshCursor) : List (Fin 64 × Nat) :=
  (refreshParts fun r => decide ((s.region r).cls = .acked) && decide ((s.region r).state = .here)).filter fun p =>
    decide (c.region < p.1) || (decide (p.1 = c.region) && decide (c.step ≤ p.2))

/-- The UPDATE frame of one part, with the words that the mirror holds (R47, R92). -/
def State.refreshUpdate (s : State) (p : Fin 64 × Nat) : SeqContent :=
  .update (BitVec.ofNat 8 p.1.val) (BitVec.ofNat 8 (16 * p.2)) (s.mirror.values (64 * p.1.val + 16 * p.2) 16) false true
    (decide (p.2 = 3))

/-- The words of one part have correct parity (R7). -/
def State.partGood (s : State) (p : Fin 64 × Nat) : Prop := s.mirror.rangeGood (64 * p.1.val + 16 * p.2) 16 = true

/-- Control and UPDATE frames without an owner have entered the Transmit List, numbered on from the next number (R48). -/
def State.withFrames (s : State) (contents : List SeqContent) : State :=
  { s with
    stream.list := s.stream.list ++ contents.mapIdx fun k c =>
      { content := c, seq := s.stream.nextSeq + BitVec.ofNat 8 k, sent := false, resend := false, owner := none }
    stream.nextSeq := s.stream.nextSeq + BitVec.ofNat 8 contents.length }

/-! ## Invariants of a safe run -/

/-- The mirror and host memory have their canonical forms. -/
def State.MirrorFormed (s : State) : Prop := s.mirror.wf = true ∧ s.hostMem.wf = true

/-- Outside RUNNING and FAULTED the link is OFF (R101, R173, R179). -/
def State.LinkRests (s : State) : Prop :=
  s.dev.state = .init ∨ s.dev.state = .halted ∨ s.dev.state = .loading ∨ s.dev.state = .stopping → s.link.state = .off

/-- No region in HERE is stale, and a peer request is pending only in HERE (R16, R31). -/
def State.FlagsFit (s : State) : Prop :=
  ∀ r, ((s.region r).stale = true → (s.region r).state ≠ .here)
    ∧ ((s.region r).pending.isSome = true → (s.region r).state = .here)

/-- The Transmit List holds at most 95 UPDATE frames, and its sequence numbers are consecutive up to the next one (R45,
R48). -/
def State.ListNumbered (s : State) : Prop :=
  s.updateCount ≤ 95 ∧
    ∀ k t, s.stream.list[k]? = some t → t.seq = s.stream.nextSeq - BitVec.ofNat 8 (s.stream.list.length - k)

/-- For each region at most one hand-over frame of this part is outstanding, and none while a peer request pends (R22,
R31). -/
def State.HandOverSingle (s : State) : Prop :=
  ∀ r, (s.stream.list.countP fun t => t.content.handsOver r) ≤ 1
    ∧ ((s.region r).pending.isSome = true → s.outstanding r = false)

/-- The sent frames form the front of the list and keep within the window, and only a sent frame is marked for
resending (R44, R45). -/
def State.WindowKept (s : State) : Prop :=
  s.sentCount ≤ s.params.window ∧ (∀ t ∈ s.stream.list, t.resend = true → t.sent = true) ∧
    s.stream.list.Pairwise fun a b => b.sent = true → a.sent = true

/-- In FAULTED every timer is stopped and the framer holds no received frame (R180). -/
def State.FaultStopped (s : State) : Prop :=
  s.dev.state = .faulted →
    s.stream.timer = none ∧ s.sweep.timer = none ∧ s.link.helloTimer = none ∧ s.link.silenceTimer = none ∧
    s.framer.quietTimer = none ∧ s.framer.heldFrames = [] ∧ ∀ r q, (s.region r).pending = some q → q.timer = none

end Sys2Proof.Machine
end

