-- ==== Sys2Proof/WellFormed.lean ====
section
/-! DEFINITION. Which commands can be written at all: the checks on a command's own operands. -/

namespace Sys2Proof

/-- A CONTROL_INVALID_CODE carries a code that is 0 or above 4 (R174). -/
def invalidControlCode (value : Word) : Bool :=
  value.toNat % 256 == 0 || decide (4 < value.toNat % 256)

/-- A register write has 1 to 8 bytes, all inside the window of 4,096 bytes (R172, 11.2). -/
def windowAccess (offset : BitVec 12) (data : List Byte) : Bool :=
  decide (1 ≤ data.length) && decide (data.length ≤ 8) && decide (offset.toNat + data.length ≤ 4096)

/-- A BAD_POST_SELECTOR carries a selector of 4 to 7 (R141). -/
def badSelector (selector : BitVec 3) : Bool := decide (4 ≤ selector.toNat)

/-- A staging transfer brings whole words, 1 to 64 of them (R115, R122). -/
def stagingBytes (result : Option (List FoundByte)) : Bool :=
  match result with
  | none => true
  | some bytes => bytes.length % 4 == 0 && decide (4 ≤ bytes.length) && decide (bytes.length ≤ 256)

/-- The operands of a command are ones its row admits. Commands without a case here admit every operand of their
type. -/
def Instr.wellFormed : Instr → Bool
  | .controlInvalidCode value => invalidControlCode value
  | .registerWrite offset data => windowAccess offset data
  | .badPostSelector selector _ => badSelector selector
  | .stagingTransferDone _ result => stagingBytes result
  | .coldReset | .perstNRelease | .initDone | .start | .stop | .reset | .clearFault
  | .producerIndexPost _ _ | .completionConsumerPost _ | .notificationConsumerPost _
  | .setupReadDone _ | .recordFetchDone _ _ | .recordPresentation
  | .nop | .write | .read | .fence | .stats | .queryRegion | .claim | .release | .hold | .unhold | .setClass
  | .watchSet | .watchClear | .linkUp | .linkDown
  | .readOutputDone _ _ | .statsOutputDone _ | .completionWriteDone _
  | .frameTake | .transmitEnd | .receiveFrameEnd _
  | .helloReceived | .updateReceived | .ownReqReceived | .ownGrantReceived | .ownDenyReceived | .syncDoneReceived
  | .ackReceived | .snapshotReceived | .idleReceived | .byeReceived
  | .retransmissionTimerExpiry | .deferralTimerExpiry _ | .sweepTimerExpiry | .helloTimerExpiry
  | .silenceTimerExpiry | .quietTimerExpiry | .linkActTimeout
  | .watchEvaluation | .notificationTake | .notificationWriteDone _
  | .ringManagerStopReport | .notificationStopReport
  | .startDelimiter | .dataByte _ | .codeError => true

end Sys2Proof
end

