-- ==== Sys2Proof/Certificates/Slice0/Obligations.lean ====
section
/-! DEFINITION. The statements for the provers. -/

open Sys2Proof Sys2Proof.Machine

/-! ## Steps, resets and control (10) -/

/-- A step takes the command at the front of the queue and is that command's effect on the state with the queue's rest.
(The queue is the model's own: log entry 1.) -/
def Obligations.StepRunsFrontCommand : Prop :=
  (∀ (c : Instr) (s : State), step (s.withFront c) = exec c s) ∧
  ∀ (c : Instr) (rest : List Instr) (s : State), s.pending = c :: rest → step s = exec c { s with pending := rest }

/-- The state after cold reset, item by item, as the tables of R8, R65, R80, R101, R114, R137, R156, R171, R175 and R184
give it. -/
def Obligations.ColdResetStateValues : Prop :=
  let s := State.reset
  (s.dev.state = .init ∧ s.dev.faultCode = .none ∧ s.dev.setupError = .none ∧ s.dev.controlRefused = false ∧
    s.dev.setupLo = 0 ∧ s.dev.setupHi = 0 ∧ s.dev.setup = none ∧ ∀ c, s.counter c = 0) ∧
  (∀ r, (s.region r).cls = .off ∧ (s.region r).state = .there ∧ (s.region r).generation = 0 ∧
    (s.region r).held = false ∧ (s.region r).pending = none ∧ (s.region r).stagingCount = 0 ∧
    (s.region r).stale = false ∧ (s.region r).claimEntry = none ∧ (s.region r).releaseEntry = none ∧
    (s.region r).lastSweep = none ∧ (s.region r).age = 0 ∧ s.watched r = false) ∧
  (s.stream.list = [] ∧ s.stream.nextSeq = 0 ∧ s.stream.expected = 0 ∧ s.stream.timer = none ∧
    s.stream.retryCount = 0 ∧ s.stream.sessionAcked = false ∧ s.stream.ackDue = false ∧ s.waitingRequesters = []) ∧
  (s.sweep.timer = none ∧ s.sweep.number = 0 ∧ s.sweep.cursor = none ∧ s.sweep.offered = none ∧
    s.sweep.pending = false ∧ s.sweep.overrun = false) ∧
  (s.link.state = .off ∧ s.link.epoch = 0 ∧ s.link.peer = none ∧ s.link.peerContent = none ∧ s.link.fixed = none ∧
    s.link.fresh = false ∧ s.link.helloTimer = none ∧ s.link.silenceTimer = none ∧ s.link.confirmDue = false ∧
    s.link.refresh = none ∧ s.link.syncSent = false ∧ s.link.syncReceived = false) ∧
  (s.framer.assembly = none ∧ s.framer.heldFrames = [] ∧ s.framer.transmitting = none ∧ s.framer.bye = none ∧
    s.framer.hello = none ∧ s.framer.turnCount = 0 ∧ s.framer.quietTimer = none ∧ s.framer.idleDue = false) ∧
  ((∀ i, s.entry i = none) ∧ s.cmd.queue = [] ∧ (∀ j : Fin 8, s.cmd.staging[j] = none) ∧
    (∀ j : Fin 4, s.cmd.buffers[j] = none) ∧ s.cmd.statsCopy = none) ∧
  ((∀ ring, s.subRing ring = { producer := 0, fetch := 0, copy := none, fetching := false, waiting := none }) ∧
    s.rings.urgentRun = 0 ∧ s.rings.post = 0 ∧ s.rings.consumer = 0 ∧ s.rings.phase = true ∧ s.rings.reserved = 0 ∧
    s.rings.posting = [] ∧ s.rings.irq = false) ∧
  ((∀ j : Fin 16, s.watch.table[j].armed = false ∧ s.watch.table[j].spec.region = 0 ∧
      s.watch.table[j].spec.first = 0 ∧ s.watch.table[j].spec.last = 0 ∧ s.watch.table[j].spec.isMatch = false ∧
      s.watch.table[j].spec.both = false ∧ s.watch.table[j].spec.oneShot = false ∧
      s.watch.table[j].spec.mask = 0 ∧ s.watch.table[j].spec.value = 0) ∧ s.watch.reports = []) ∧
  (s.notif.queue = [] ∧ s.notif.post = 0 ∧ s.notif.consumer = 0 ∧ s.notif.phase = true ∧ s.notif.number = 0 ∧
    s.notif.lost = 0 ∧ s.notif.frozen = false ∧ s.notif.irq = false)

/-- COLD_RESET, PERST_N_RELEASE, INIT_DONE, RESET and CLEAR_FAULT with all they leave (R2, R175, R181, R182 and the
tables they name). The model's choices in it: what stands of the framer while PERST_N is asserted (log entry 35), the
mirror's words at the release and the INIT pass as one step (log entry 6), LINK_ACT through a device reset (log entry 7),
the notification record write that CLEAR_FAULT drops (log entry 24), and of `State.reset` the address of a setup read that
no START has taken (log entry 4) and the two stop reports, not received (log entry 45). -/
def Obligations.ResetsComplete : Prop :=
  (∀ s : State, exec .coldReset s = .next { s with
      dev.perst := true
      framer := {
        assembly := none, heldFrames := [], transmitting := none, bye := none, hello := none,
        turnCount := 0, quietTimer := none, idleDue := false }
      emitted := if s.framer.transmitting.isSome then .lineCut :: s.emitted else s.emitted }) ∧
  (∀ s : State, s.dev.perst = true → exec .perstNRelease s = .next { State.reset with
      mirror := s.mirror, hostMem := s.hostMem, emitted := s.emitted, choices := s.choices, pending := s.pending }) ∧
  (∀ s : State, s.dev.perst = false → s.dev.state = .init →
    ∃ t, exec .initDone s = .next t ∧ t = { s with dev.state := .halted, mirror := t.mirror } ∧
      ∀ a, (t.mirror.read a).value = 0 ∧ (t.mirror.read a).good = true) ∧
  (∀ s : State, s.dev.perst = false → s.dev.state = .init →
    exec .reset s = .next { s with dev.controlRefused := false }) ∧
  (∀ s : State, s.dev.perst = false → s.dev.state ≠ .init → exec .reset s = .next { State.reset with
      dev.state := .halted
      mirror := s.mirror
      pinLinkAct := s.pinLinkAct
      hostMem := s.hostMem
      emitted := if s.framer.transmitting.isSome then .lineCut :: s.emitted else s.emitted
      choices := s.choices
      pending := s.pending }) ∧
  (∀ s : State, s.dev.perst = false → s.dev.state = .faulted → ∃ t, exec .clearFault s = .next t ∧ t = { s with
      dev := { s.dev with state := .halted, controlRefused := false }
      regions := t.regions
      rings := { s.rings with
        urgent := { s.rings.urgent with copy := none, fetching := false, waiting := none },
        normal := { s.rings.normal with copy := none, fetching := false, waiting := none },
        urgentRun := 0, reserved := 0, posting := [], irq := false }
      cmd := State.reset.cmd
      stream := State.reset.stream
      sweep := State.reset.sweep
      link := { State.reset.link with epoch := s.link.epoch + 1, fresh := s.link.fresh }
      framer := { State.reset.framer with transmitting := s.framer.transmitting, bye := s.framer.bye }
      watch := { s.watch with reports := [] }
      notif := { s.notif with queue := [], lost := 0, frozen := false, irq := false, writing := none } } ∧
    ∀ r, t.region r = { s.region r with stagingCount := 0, claimEntry := none, releaseEntry := none })

/-- START in HALTED takes the setup address and begins the load or ends it with ADDRESS; START, STOP and CLEAR_FAULT in a
state that does not accept them, and a code 0 or above 4, only set the control-refused flag (R174, R176). -/
def Obligations.ControlCommandsByState : Prop :=
  (∀ s : State, s.dev.perst = false → s.dev.state = .halted → s.dev.setupLo.toNat % 64 = 0 →
    exec .start s = .next { s with
      dev := { s.dev with
        controlRefused := false, state := .loading, loadAddr := s.dev.setupHi ++ s.dev.setupLo, faultCode := .none,
        setupError := .none }
      emitted := .hostRead (s.dev.setupHi ++ s.dev.setupLo) 128 :: s.emitted }) ∧
  (∀ s : State, s.dev.perst = false → s.dev.state = .halted → s.dev.setupLo.toNat % 64 ≠ 0 →
    exec .start s = .next { s with
      dev := { s.dev with
        controlRefused := false, state := .halted, loadAddr := s.dev.setupHi ++ s.dev.setupLo, faultCode := .none,
        setupError := .address } }) ∧
  (∀ s : State, s.dev.perst = false → s.dev.state ≠ .halted →
    exec .start s = .next { s with dev.controlRefused := true }) ∧
  (∀ s : State, s.dev.perst = false → s.dev.state ≠ .running →
    exec .stop s = .next { s with dev.controlRefused := true }) ∧
  (∀ s : State, s.dev.perst = false → s.dev.state ≠ .faulted →
    exec .clearFault s = .next { s with dev.controlRefused := true }) ∧
  (∀ (s : State) (value : Word), s.dev.perst = false → (Instr.controlInvalidCode value).wellFormed = true →
    exec (.controlInvalidCode value) s = .next { s with dev.controlRefused := true })

/-- Writes of the register window (R172, 11.2): a whole write of a register is taken by its offset; one of fewer than
four bytes is ignored; a 64-bit write is two 32-bit writes, the lower address first. Reads of it: IDENT, STATUS with its
six fields, SETUP_LO and SETUP_HI, 0 from CONTROL, POST and every other offset, the bytes asked for of each, and no answer
while PERST_N is asserted (R172, R173, R175, 11.2). And the LINK_UP pin (R81); that in a part held in cold reset it follows
the link state from before is the model's choice (log entry 44). -/
def Obligations.RegisterWritesByOffset : Prop :=
  (∀ (s : State) (offset : BitVec 12) (b0 b1 b2 b3 : Byte), s.dev.perst = false → offset.toNat % 4 = 0 →
    exec (.registerWrite offset [b0, b1, b2, b3]) s =
      if offset = 0x004#12 then
        (if b0 = 1#8 then exec .start s else if b0 = 2#8 then exec .stop s else if b0 = 3#8 then exec .reset s
          else if b0 = 4#8 then exec .clearFault s else .next { s with dev.controlRefused := true })
      else if offset = 0x00C#12 then .next { s with dev.setupLo := b3 ++ b2 ++ b1 ++ b0 }
      else if offset = 0x010#12 then .next { s with dev.setupHi := b3 ++ b2 ++ b1 ++ b0 }
      else if offset = 0x014#12 then
        (if b2.toNat % 8 = 0 then exec (.producerIndexPost .urgent (b1 ++ b0)) s
          else if b2.toNat % 8 = 1 then exec (.producerIndexPost .normal (b1 ++ b0)) s
          else if b2.toNat % 8 = 2 then exec (.completionConsumerPost (b1 ++ b0)) s
          else if b2.toNat % 8 = 3 then exec (.notificationConsumerPost (b1 ++ b0)) s
          else exec (.badPostSelector (BitVec.ofNat 3 b2.toNat) (b1 ++ b0)) s)
      else .next s) ∧
  (∀ (s : State) (offset : BitVec 12) (data : List Byte), data.length < 4 →
    exec (.registerWrite offset data) s = .next s) ∧
  (∀ (s t : State) (offset : BitVec 12) (low high : List Byte), offset.toNat % 4 = 0 → offset.toNat + 8 ≤ 4096 →
    low.length = 4 → high.length = 4 → exec (.registerWrite offset low) s = .next t →
    exec (.registerWrite offset (low ++ high)) s = exec (.registerWrite (offset + 4) high) t) ∧
  (∀ (s : State) (offset : BitVec 12) (k n : Nat), s.dev.perst = false → offset.toNat % 4 = 0 → k + n ≤ 4 →
    let word : Word :=
      if offset = 0x000#12 then 0x01D64B47#32
      else if offset = 0x008#12 then s.statusWord
      else if offset = 0x00C#12 then s.dev.setupLo
      else if offset = 0x010#12 then s.dev.setupHi
      else 0
    s.readWindow (offset.toNat + k) n = some ((List.range n).map fun j => word.extractLsb' (8 * (k + j)) 8)) ∧
  (∀ (s : State) (offset : Nat) (low high : List Byte), s.readWindow offset 4 = some low →
    s.readWindow (offset + 4) 4 = some high → s.readWindow offset 8 = some (low ++ high)) ∧
  (∀ (s : State) (offset n : Nat), s.dev.perst = true → s.readWindow offset n = none) ∧
  (∀ s : State,
    (s.statusWord.extractLsb' 0 3).toNat = (match s.dev.state with
      | .init => 0 | .halted => 1 | .loading => 2 | .running => 3 | .stopping => 4 | .faulted => 5) ∧
    (s.statusWord.extractLsb' 4 3).toNat = (match s.link.state with
      | .off => 0 | .seeking => 1 | .joining => 2 | .syncing => 3 | .up => 4 | .rejected => 5) ∧
    (s.statusWord.extractLsb' 8 3).toNat = (match s.dev.faultCode with
      | .none => 0 | .ringFetch => 1 | .recordWrite => 2 | .badPost => 3 | .mirrorParity => 4) ∧
    (s.statusWord.extractLsb' 16 4).toNat = (match s.dev.setupError with
      | .none => 0 | .hostAccess => 1 | .version => 2 | .reserved => 3 | .ringBase => 4 | .ringSize => 5 | .nodeId => 6
      | .window => 7 | .ackTimeout => 8 | .retryLimit => 9 | .helloInterval => 10 | .sweepPeriod => 11 | .policy => 12
      | .region => 13 | .address => 14) ∧
    s.statusWord.getLsbD 24 = s.notif.frozen ∧ s.statusWord.getLsbD 25 = s.dev.controlRefused ∧
    ∀ k ∈ [3, 7, 11, 12, 13, 14, 15, 20, 21, 22, 23, 26, 27, 28, 29, 30, 31], s.statusWord.getLsbD k = false) ∧
  (∀ s : State, s.linkUpPin = true ↔ s.link.state = .up ∧ s.dev.state ≠ .faulted)

/-- The end of the setup read in LOADING, with host memory as the read found it at the address taken by START: an error, a
copy that fails a check, and a valid copy with all that a successful START leaves (R9, R176 to R178, R189 and the START
columns of R65, R80, R101, R114, R137, R156, R171). The model's choices in it: a block that passes the end of the address
space wraps (log entry 37), and a notification record still in its write is dropped with the rest of the poster's work (log
entry 24). -/
def Obligations.SetupReadEnds : Prop :=
  (∀ s : State, s.dev.perst = false → s.dev.state = .loading →
    exec (.setupReadDone none) s = .next { s with dev.state := .halted, dev.setupError := .hostAccess }) ∧
  (∀ (s : State) (found : Vector FoundByte 128) (e : SetupError), s.dev.perst = false → s.dev.state = .loading →
    validateSetup (s.hostMem.load s.dev.loadAddr found.toList) = .error e →
    exec (.setupReadDone (some found)) s = .next { s with dev.state := .halted, dev.setupError := e }) ∧
  (∀ (s : State) (found : Vector FoundByte 128) (p : SetupParams), s.dev.perst = false → s.dev.state = .loading →
    validateSetup (s.hostMem.load s.dev.loadAddr found.toList) = .ok p → ∃ t,
      exec (.setupReadDone (some found)) s = .next t ∧
      t.dev = { s.dev with setup := some p, state := .running } ∧
      (∀ r : Fin 64, t.region r = { State.reset.region r with
        cls := p.descriptors[r].1, state := if p.descriptors[r].2 then .here else .there }) ∧
      t.rings = State.reset.rings ∧ t.cmd = State.reset.cmd ∧ t.stream = State.reset.stream ∧
      t.sweep = State.reset.sweep ∧ t.watch = State.reset.watch ∧ t.notif = State.reset.notif ∧
      t.link = { State.reset.link with
        epoch := s.link.epoch
        fresh := true
        state := if p.autoLink then .seeking else .off
        helloTimer := if p.autoLink then some p.helloInterval else none } ∧
      t.framer = { s.framer with
        hello := if p.autoLink then
          some { nodeId := p.nodeId, heard := none, joined := false, content := t.presentContent } else none
        turnCount := 0
        quietTimer := none
        idleDue := false } ∧
      t.mirror = s.mirror ∧ t.hostMem = s.hostMem ∧ t.emitted = s.emitted ∧ t.pinLinkAct = s.pinLinkAct ∧
      t.pending = s.pending)

/-- STOP in RUNNING ends the link and the admission, and aborts every entry in use that has no transfer in progress: in
ascending order of entry each completes ABORTED with zero words and leaves the Execution Queue, a WRITE gives up its place
in the staging count and its slot, a READ its buffer; the two stop reports together move the part to HALTED (R121, R136,
R154, R170, R179; when the reports are made: log entry 16). -/
def Obligations.StopEndsTheWork : Prop :=
  (∀ s : State, s.Runs →
    let asked : State := { s with dev := { s.dev with
      state := .stopping, controlRefused := false, rmReport := false, npReport := false } }
    let ended : State :=
      if s.link.state = .off then asked
      else if s.link.state = .rejected then { asked with link.state := .off, framer.hello := none }
      else asked.linkLoss .stop
    let idle : Fin 32 → Option OctEntry := fun i =>
      (ended.entry i).filter fun e => decide (e.phase ≠ .completed) && !ended.transferBusy e
    let isWrite : Command → Bool := fun c => match c with
      | .write .. => true
      | _ => false
    let isRead : Command → Bool := fun c => match c with
      | .read .. => true
      | _ => false
    let writes : Fin 64 → Command → Bool := fun r c => match c with
      | .write r' _ _ _ _ => r' == r
      | _ => false
    ∃ t, exec .stop s = .next t ∧
      t.rings = { ended.rings with
        posting := ended.rings.posting ++ (List.finRange 32).filterMap fun i => (idle i).map fun e =>
          { ring := e.ring, tag := e.tag, status := .aborted, info := { w0 := 0, w1 := 0, w2 := 0 }, entry := some i }
        urgent := { s.rings.urgent with copy := none, waiting := none }
        normal := { s.rings.normal with copy := none, waiting := none } } ∧
      (∀ i, t.entry i = match idle i with
        | some e => some e.finished
        | none => ended.entry i) ∧
      t.cmd.queue = (ended.cmd.queue.filter fun i => (idle i).isNone) ∧
      (∀ j : Fin 8, ((∃ i e, idle i = some e ∧ isWrite e.command = true ∧ e.staging = some j) →
          t.cmd.staging[j] = none) ∧
        ((∀ i e, idle i = some e → isWrite e.command = true → e.staging ≠ some j) →
          t.cmd.staging[j] = ended.cmd.staging[j])) ∧
      (∀ j : Fin 4, ((∃ i e, idle i = some e ∧ isRead e.command = true ∧ e.buffer = some j) →
          t.cmd.buffers[j] = none) ∧
        ((∀ i e, idle i = some e → isRead e.command = true → e.buffer ≠ some j) →
          t.cmd.buffers[j] = ended.cmd.buffers[j])) ∧
      t.cmd.statsCopy = ended.cmd.statsCopy ∧
      (∀ r, t.region r = { ended.region r with
        stagingCount := (ended.region r).stagingCount -
          (List.finRange 32).countP fun i => (idle i).any fun e => writes r e.command }) ∧
      (let ringsDone := t.rings.posting = [] ∧ t.rings.reserved = 0 ∧ t.rings.urgent.fetching = false ∧
          t.rings.normal.fetching = false ∧ ∀ i e, t.entry i = some e → e.phase = .completed ∨ t.transferBusy e = false
        let recordsDone := t.notif.queue = [] ∧ t.notif.writing = none
        t.dev = { ended.dev with state := t.dev.state, rmReport := t.dev.rmReport, npReport := t.dev.npReport } ∧
        (t.dev.rmReport = true ↔ ringsDone) ∧ (t.dev.npReport = true ↔ recordsDone) ∧
        (ringsDone ∧ recordsDone → t.dev.state = .halted) ∧ (¬ (ringsDone ∧ recordsDone) → t.dev.state = .stopping)) ∧
      t.link = ended.link ∧ t.framer = ended.framer ∧ t.sweep = ended.sweep ∧ t.notif = ended.notif ∧
      t.stream = { ended.stream with waitWrite := t.stream.waitWrite } ∧ t.emitted = s.emitted ∧
      t.link.state = .off ∧ (∀ ring, (t.subRing ring).fetching = (s.subRing ring).fetching) ∧
      (s.link.state = .seeking ∨ s.link.state = .joining ∨ s.link.state = .syncing ∨ s.link.state = .up →
        t.link.epoch = s.link.epoch + 1 ∧ t.framer.bye = some s.link.epoch ∧ t.stream.list = [] ∧
        t.notif.queue = s.notif.queue ++ [.event (.linkLost .stop)]) ∧
      (s.link.state = .off ∨ s.link.state = .rejected →
        t.link.epoch = s.link.epoch ∧ t.framer.bye = s.framer.bye ∧ t.notif.queue = s.notif.queue) ∧
      t.mirror = s.mirror ∧ t.watch = s.watch ∧ t.dev.setup = s.dev.setup) ∧
  (∀ s : State, s.dev.perst = false → s.dev.state = .stopping → s.rings.posting = [] → s.rings.reserved = 0 →
    s.rings.urgent.fetching = false → s.rings.normal.fetching = false →
    (∀ i e, s.entry i = some e → e.phase = .completed ∨ s.transferBusy e = false) →
    exec .ringManagerStopReport s = .next (if s.dev.npReport then
      { s with dev.rmReport := true, dev.state := .halted } else { s with dev.rmReport := true })) ∧
  (∀ s : State, s.dev.perst = false → s.dev.state = .stopping → s.notif.queue = [] → s.notif.writing = none →
    exec .notificationStopReport s = .next (if s.dev.rmReport then
      { s with dev.npReport := true, dev.state := .halted } else { s with dev.npReport := true }))

/-! ## Posts, fetches, admission and posting (08) -/

/-- A valid producer write makes the index the ring's producer index, and a fetch of the head record begins if the ring
then has a pending record, no fetched copy and no fetch in progress (R142, R145); valid consumer writes of the
completion ring (R143, R147, R152) and of the notification ring (R144, R168, R169). Where the address of the slot fetched
passes the end of the address space it wraps by the model's choice (log entry 37). -/
def Obligations.PostsTakeIndex : Prop :=
  (∀ (s : State) (ring : Ring) (index : BitVec 16), s.Runs → index.toNat < s.ringSize ring →
    (s.subRing ring).producer < s.ringSize ring → (s.subRing ring).fetch < s.ringSize ring →
    s.pendingCount ring ≤ (index.toNat + s.ringSize ring - (s.subRing ring).fetch) % s.ringSize ring →
    exec (.producerIndexPost ring index) s = .next
      (if (s.subRing ring).copy = none ∧ (s.subRing ring).fetching = false ∧ index.toNat ≠ (s.subRing ring).fetch then
        { s.setSubRing ring { s.subRing ring with producer := index.toNat, fetching := true } with
          emitted := .hostRead (s.ringBase ring + BitVec.ofNat 64 (32 * (s.subRing ring).fetch)) 32 :: s.emitted }
      else s.setSubRing ring { s.subRing ring with producer := index.toNat })) ∧
  (∀ (s : State) (index : BitVec 16), s.Runs → index.toNat < s.params.completionSize →
    ringDistance index.toNat s.rings.consumer s.params.completionSize ≤ s.unconsumed → ∃ t,
    exec (.completionConsumerPost index) s = .next t ∧
      t = { s with rings := { s.rings with
        consumer := index.toNat, irq := false, urgent := t.rings.urgent, normal := t.rings.normal } } ∧
      ∀ ring, t.subRing ring =
        if ringDistance index.toNat s.rings.consumer s.params.completionSize ≠ 0
            ∧ (s.subRing ring).waiting = some .completionSpace then { s.subRing ring with waiting := none }
        else s.subRing ring) ∧
  (∀ (s : State) (index : BitVec 16), s.Runs → index.toNat < s.params.notifySize →
    let d := ringDistance index.toNat s.notif.consumer s.params.notifySize
    exec (.notificationConsumerPost index) s = .next
      (if 1 ≤ d ∧ d ≤ s.notifyUnconsumed then
        (if s.notif.frozen = true ∧ index.toNat = s.notif.post then
          { s with notif := { s.notif with
            irq := false, consumer := index.toNat, frozen := false, number := s.notif.number + 1, lost := 0,
            writing := some {
              number := s.notif.number, lost := s.notif.lost, body := .event (.notifyResumed s.notif.lost) } } }
        else { s with notif.irq := false, notif.consumer := index.toNat })
      else { s with notif.irq := false }))

/-- A POST write that names no ring or fails a check in RUNNING is the fault BAD_POST; outside RUNNING every POST write is
ignored (R141 to R144, R180). -/
def Obligations.BadPostEntersFaulted : Prop :=
  (∀ (s : State) (selector : BitVec 3) (index : BitVec 16), s.Runs →
    (Instr.badPostSelector selector index).wellFormed = true →
    ∃ t, exec (.badPostSelector selector index) s = .next t ∧ s.HasFaulted t .badPost) ∧
  (∀ (s : State) (ring : Ring) (index : BitVec 16), s.Runs →
    (s.ringSize ring ≤ index.toNat ∨
      ringDistance index.toNat (s.subRing ring).fetch (s.ringSize ring) < s.pendingCount ring) →
    ∃ t, exec (.producerIndexPost ring index) s = .next t ∧ s.HasFaulted t .badPost) ∧
  (∀ (s : State) (index : BitVec 16), s.Runs →
    (s.params.completionSize ≤ index.toNat ∨
      s.unconsumed < ringDistance index.toNat s.rings.consumer s.params.completionSize) →
    ∃ t, exec (.completionConsumerPost index) s = .next t ∧ s.HasFaulted t .badPost) ∧
  (∀ (s : State) (index : BitVec 16), s.Runs → s.params.notifySize ≤ index.toNat →
    ∃ t, exec (.notificationConsumerPost index) s = .next t ∧ s.HasFaulted t .badPost) ∧
  (∀ (s : State) (ring : Ring) (selector : BitVec 3) (index : BitVec 16), s.dev.perst = false →
    s.dev.state ≠ .running →
    exec (.producerIndexPost ring index) s = .next s ∧ exec (.completionConsumerPost index) s = .next s ∧
      exec (.notificationConsumerPost index) s = .next s ∧ exec (.badPostSelector selector index) s = .next s)

/-- The end of a record fetch: the bytes of the head record's slot become the fetched copy, an error is the fault
RING_FETCH, and in STOPPING the outcome is discarded (R145, R154, R180). And what a DMA read takes: the byte found there,
or else the one that the part's latest DMA write left; so that a completion record written over a pending submission slot
is fetched from it (R189). The model's choices in it: what host memory holds where the part has never written is free, and
the commands carry what a read finds (log entry 29); a slot or byte address that passes the end of the address space wraps
(log entry 37). -/
def Obligations.RecordFetchEnds : Prop :=
  (∀ (s : State) (ring : Ring) (found : Vector FoundByte 32), s.Runs → (s.subRing ring).fetching = true →
    exec (.recordFetchDone ring (some found)) s = .next (s.setSubRing ring { s.subRing ring with
      fetching := false
      copy := some (s.hostMem.load (s.ringBase ring + BitVec.ofNat 64 (32 * (s.subRing ring).fetch)) found.toList) })) ∧
  (∀ (s : State) (ring : Ring), s.Runs → (s.subRing ring).fetching = true →
    ∃ t, exec (.recordFetchDone ring none) s = .next t ∧ s.HasFaulted t .ringFetch ∧
      (t.subRing ring).copy = (s.subRing ring).copy) ∧
  (∀ (s : State) (ring : Ring) (result : Option (Vector FoundByte 32)), s.dev.perst = false →
    s.dev.state = .stopping → (s.subRing ring).fetching = true →
    exec (.recordFetchDone ring result) s = .next (s.setSubRing ring { s.subRing ring with fetching := false })) ∧
  (∀ (m : HostMemory) (addr : Addr) (found : List FoundByte), (m.load addr found).length = found.length ∧
    ∀ k x, found[k]? = some x → (m.load addr found)[k]? = some (match x with
      | some b => b
      | none => (m.read (addr + BitVec.ofNat 64 k).toNat).getD (Config.hostByte (addr + BitVec.ofNat 64 k).toNat))) ∧
  (∀ (m : HostMemory) (addr : Addr) (data : List Byte), data.length ≤ 4096 →
    (∀ k, k < data.length → (m.store addr data).read (addr + BitVec.ofNat 64 k).toNat = data[k]?) ∧
    ∀ a, (∀ k, k < data.length → a ≠ (addr + BitVec.ofNat 64 k).toNat) → (m.store addr data).read a = m.read a) ∧
  (∀ (s : State) (ring : Ring) (c : Completion) (rest : List Completion), s.Runs → s.rings.posting = c :: rest →
    (s.subRing ring).fetching = true →
    s.ringBase ring + BitVec.ofNat 64 (32 * (s.subRing ring).fetch) =
      s.params.completionBase + BitVec.ofNat 64 (16 * s.rings.post) →
    ∃ t u copy, exec (.completionWriteDone true) s = .next t ∧
      exec (.recordFetchDone ring (some (Vector.replicate 32 none))) t = .next u ∧
      (u.subRing ring).copy = some copy ∧ copy.take 16 = c.bytes s.rings.phase)

/-- A record that passes every stage is taken and admitted: the lowest free OCT entry receives it, slot, buffer and
staging count follow its command, the staging transfer of a WRITE from a buffer begins, and so does the fetch of the
ring's next record if one is pending (R117, R122, R145, R146 stage 3, R149, R29). Which place is the lowest free one, and
which command needs a slot or a buffer (R122, R124). The model's choices in it: of the free slots and buffers the lowest is
taken (log entry 22), of two reads begun in one step the log holds the fetch as the earlier (log entry 5), and a slot
address that passes the end of the address space wraps (log entry 37). -/
def Obligations.PresentationAdmits : Prop :=
  (∀ (s : State) (ring : Ring) (bytes : List Byte) (c : Command) (i : Fin 32), s.Runs →
    s.presentedRing = some ring → (s.subRing ring).copy = some bytes → s.canReserve = true →
    s.checkRecord bytes = .ok c → s.yields c = false → s.lacking c = none → firstFree s.cmd.oct = some i →
    let next := ((s.subRing ring).fetch + 1) % s.ringSize ring
    let begins := (s.subRing ring).fetching = false ∧
      0 < ringDistance (s.subRing ring).producer next (s.ringSize ring)
    ∃ t, exec .recordPresentation s = .next t ∧
      t.cmd.oct = s.cmd.oct.set i (some
        { ring := ring, tag := recordTag bytes, command := c, phase := .queued,
          staging := if c.needsStaging then firstFree s.cmd.staging else none,
          buffer := if c.needsBuffer then firstFree s.cmd.buffers else none,
          mark := none, info := .zero }) ∧
      t.cmd.queue = s.cmd.queue ++ [i] ∧
      (∀ j : Fin 8, t.cmd.staging[j] = if c.needsStaging = true ∧ firstFree s.cmd.staging = some j then
        some { entry := i, words := [], arrived := false, error := false } else s.cmd.staging[j]) ∧
      (∀ j : Fin 4, t.cmd.buffers[j] = if c.needsBuffer = true ∧ firstFree s.cmd.buffers = some j then
        some { entry := i, capture := none } else s.cmd.buffers[j]) ∧
      (∀ r, t.region r = match c with
        | .write r' _ _ _ _ => if r = r' then { s.region r with stagingCount := (s.region r).stagingCount + 1 }
            else s.region r
        | _ => s.region r) ∧
      t.rings = { s.rings with
        urgent := t.rings.urgent
        normal := t.rings.normal
        reserved := s.rings.reserved + 1
        urgentRun := match ring with
          | .normal => 0
          | .urgent => if 0 < s.pendingCount .normal then min (s.rings.urgentRun + 1) 8 else 0 } ∧
      (∀ q, t.subRing q = if q = ring then { s.subRing ring with
          copy := none, fetch := next, fetching := (s.subRing ring).fetching || decide begins }
        else s.subRing q) ∧
      t.emitted = (match c with
        | .write _ _ count (.buffer addr) _ => [.hostRead addr (4 * count)]
        | _ => []) ++
        (if begins then [.hostRead (s.ringBase ring + BitVec.ofNat 64 (32 * next)) 32] else []) ++ s.emitted ∧
      t.dev = s.dev ∧ t.mirror = s.mirror ∧ t.stream = s.stream ∧ t.link = s.link ∧ t.watch = s.watch ∧
      t.notif = s.notif ∧ t.sweep = s.sweep ∧ t.framer = s.framer ∧ t.cmd.statsCopy = s.cmd.statsCopy ∧
      t.hostMem = s.hostMem) ∧
  (∀ (α : Type) (n : Nat) (places : Vector (Option α) n) (i : Fin n),
    firstFree places = some i ↔ places[i] = none ∧ ∀ k < i, places[k] ≠ none) ∧
  (∀ c : Command,
    (c.needsStaging = true ↔ ∃ r offset count addr waitRemote, c = .write r offset count (.buffer addr) waitRemote) ∧
    (c.needsBuffer = true ↔ ∃ r offset count addr, c = .read r offset count addr))

/-- The other outcomes of a presentation: no completion space, a refusal by an operand check or YIELDING, after which the
fetch of the ring's next record begins if one is pending, a lacking resource, and no presentation where no ring is ready or
the part is not RUNNING (R30, R116, R145, R146); which ring has its turn, and when it is ready (R148). And the conditions
themselves: when a completion slot can be reserved (R140), when a WRITE yields (R30), and which resource is the first
lacking (R146 stage 4). Where the address of the next slot passes the end of the address space it wraps by the model's
choice (log entry 37). -/
def Obligations.PresentationRefusesOrWaits : Prop :=
  (∀ (s : State) (ring : Ring) (bytes : List Byte), s.Runs → s.presentedRing = some ring →
    (s.subRing ring).copy = some bytes → s.canReserve = false →
    exec .recordPresentation s = .next
      (s.setSubRing ring { s.subRing ring with waiting := some .completionSpace })) ∧
  (∀ (s : State) (ring : Ring) (bytes : List Byte) (status : Status), s.Runs → s.presentedRing = some ring →
    (s.subRing ring).copy = some bytes → s.canReserve = true →
    (s.checkRecord bytes = .error status ∨
      status = .yielding ∧ ∃ c, s.checkRecord bytes = .ok c ∧ s.yields c = true) →
    let next := ((s.subRing ring).fetch + 1) % s.ringSize ring
    let begins := (s.subRing ring).fetching = false ∧
      0 < ringDistance (s.subRing ring).producer next (s.ringSize ring)
    ∃ t, exec .recordPresentation s = .next t ∧
      t.rings = { s.rings with
        urgent := t.rings.urgent
        normal := t.rings.normal
        posting := s.rings.posting ++
          [{ ring := ring, tag := recordTag bytes, status := status, info := { w0 := 0, w1 := 0, w2 := 0 },
             entry := none }]
        reserved := s.rings.reserved + 1
        urgentRun := match ring with
          | .normal => 0
          | .urgent => if 0 < s.pendingCount .normal then min (s.rings.urgentRun + 1) 8 else 0 } ∧
      (∀ q, t.subRing q = if q = ring then { s.subRing ring with
          copy := none, fetch := next, fetching := (s.subRing ring).fetching || decide begins }
        else s.subRing q) ∧
      t.emitted =
        (if begins then [.hostRead (s.ringBase ring + BitVec.ofNat 64 (32 * next)) 32] else []) ++ s.emitted ∧
      t.cmd = s.cmd ∧ t.regions = s.regions ∧ t.mirror = s.mirror ∧ t.stream = s.stream ∧ t.link = s.link ∧
      t.notif = s.notif ∧ t.dev = s.dev ∧ t.watch = s.watch ∧ t.sweep = s.sweep ∧ t.framer = s.framer) ∧
  (∀ (s : State) (ring : Ring) (bytes : List Byte) (c : Command) (r : Resource), s.Runs →
    s.presentedRing = some ring → (s.subRing ring).copy = some bytes → s.canReserve = true →
    s.checkRecord bytes = .ok c → s.yields c = false → s.lacking c = some r →
    exec .recordPresentation s = .next (s.setSubRing ring { s.subRing ring with waiting := some r })) ∧
  (∀ s : State, s.rings.urgent.ready = true →
    (s.rings.normal.ready = false ∨ s.rings.urgentRun < 8) → s.presentedRing = some .urgent) ∧
  (∀ s : State, s.rings.normal.ready = true →
    (s.rings.urgent.ready = false ∨ 8 ≤ s.rings.urgentRun) → s.presentedRing = some .normal) ∧
  (∀ (s : State) (ring : Ring), (s.subRing ring).ready = true ↔
    (s.subRing ring).copy.isSome = true ∧ (s.subRing ring).waiting = none) ∧
  (∀ s : State, s.dev.perst = false →
    (s.dev.state ≠ .running ∨ s.rings.urgent.ready = false ∧ s.rings.normal.ready = false) →
    exec .recordPresentation s = .next s) ∧
  (∀ s : State, s.rings.post < s.params.completionSize → s.rings.consumer < s.params.completionSize →
    (s.canReserve = true ↔
      (s.rings.post + s.params.completionSize - s.rings.consumer) % s.params.completionSize + s.rings.reserved <
        s.params.completionSize - 1)) ∧
  (∀ (s : State) (c : Command), s.yields c = true ↔ ∃ r offset count source waitRemote,
    c = .write r offset count source waitRemote ∧ (s.region r).pending.isSome = true ∧ (s.region r).held = false) ∧
  (∀ (s : State) (c : Command),
    (s.lacking c = some .octEntry ↔ ∀ i : Fin 32, s.cmd.oct[i] ≠ none) ∧
    (s.lacking c = some .stagingSlot ↔ (∃ i : Fin 32, s.cmd.oct[i] = none) ∧
      (∃ r offset count addr waitRemote, c = .write r offset count (.buffer addr) waitRemote) ∧
      ∀ j : Fin 8, s.cmd.staging[j] ≠ none) ∧
    (s.lacking c = some .readBuffer ↔ (∃ i : Fin 32, s.cmd.oct[i] = none) ∧
      (∃ r offset count addr, c = .read r offset count addr) ∧ ∀ j : Fin 4, s.cmd.buffers[j] ≠ none) ∧
    s.lacking c ≠ some .completionSpace)

/-- The operand checks of a record and the validation of a setup block, both ways: the first check that fails in its order
gives the status or the setup error (the codes of 11.5 and of R177 rise in that order), and an input that passes every
check is taken with the fields that 11.4 and 11.3 lay out. What passes is a legal command (R14, R115, R116, R158) and a
setup block with every field in its valid range (R138, R177). -/
def Obligations.AcceptedInputsAreLegal : Prop :=
  (∀ (s : State) (b : List Byte) (e : Status), b.length = 32 →
    (s.checkRecord b = .error e ↔ ¬ s.RecordCheck b e ∧ ∀ e', Status.code e' < Status.code e → s.RecordCheck b e')) ∧
  (∀ (s : State) (b : List Byte), b.length = 32 → (∀ e, s.RecordCheck b e) → s.checkRecord b = .ok (commandOf b)) ∧
  (∀ b : List Byte, b.length = 32 → recordTag b = halfAt b 2) ∧
  (∀ (b : List Byte) (e : SetupError), b.length = 128 →
    (validateSetup b = .error e ↔
      ¬ SetupCheck b e ∧ ∀ e', SetupError.code e' < SetupError.code e → SetupCheck b e')) ∧
  (∀ b : List Byte, b.length = 128 → (∀ e, SetupCheck b e) → ∃ p, validateSetup b = .ok p ∧ p.LaidOut b) ∧
  (∀ (s : State) (b : List Byte) (c : Command), b.length = 32 → s.checkRecord b = .ok c →
    fieldAt b 0x07 9 = 0 ∧ 1 ≤ fieldAt b 0x00 1 ∧ fieldAt b 0x00 1 ≤ 15 ∧
    match c with
    | .write r offset count source _ =>
      1 ≤ count ∧ offset + count ≤ 64 ∧ (s.region r).cls ≠ .off ∧
        (match source with
          | .inline words => count ≤ 4 ∧ words.length = count
          | .buffer addr => addr.toNat % 4 = 0 ∧ addr.toNat + 4 * count ≤ 2 ^ 64)
    | .read r offset count addr =>
      1 ≤ count ∧ offset + count ≤ 64 ∧ (s.region r).cls ≠ .off ∧ addr.toNat % 4 = 0 ∧
        addr.toNat + 4 * count ≤ 2 ^ 64
    | .stats addr _ => addr.toNat % 4 = 0 ∧ addr.toNat + 48 ≤ 2 ^ 64
    | .claim r _ => (s.region r).cls ≠ .off
    | .release r => (s.region r).cls ≠ .off
    | .hold r => (s.region r).cls ≠ .off
    | .unhold r => (s.region r).cls ≠ .off
    | .setClass _ cls _ => cls = .cyclic → s.params.sweepPeriod ≠ 0
    | .watchSet _ spec =>
      (s.region spec.region).cls ≠ .off ∧ spec.first ≤ spec.last ∧ spec.last < 64 ∧
        (spec.isMatch = true → spec.value &&& ~~~ spec.mask = 0)
    | _ => True) ∧
  (∀ (b : List Byte) (p : SetupParams), validateSetup b = .ok p →
    fieldAt b 0x00 1 = 1 ∧
    (1 ≤ p.nodeId.toNat ∧ p.nodeId.toNat ≤ 65534) ∧ (1 ≤ p.window ∧ p.window ≤ 32) ∧
    (1 ≤ p.ackTimeout ∧ p.ackTimeout ≤ 255) ∧ (1 ≤ p.retryLimit ∧ p.retryLimit ≤ 15) ∧
    (1 ≤ p.helloInterval ∧ p.helloInterval ≤ 255) ∧ p.sweepPeriod ≤ 1000 ∧ p.staleLimit ≤ 255 ∧
    p.deferralLimit ≤ 65535 ∧
    (p.sweepPeriod = 0 → ∀ r : Fin 64, p.descriptors[r].1 ≠ .cyclic) ∧
    (∀ n ∈ [p.urgentSize, p.normalSize, p.completionSize, p.notifySize],
      ∃ k, 4 ≤ k ∧ k ≤ 12 ∧ n = 2 ^ k) ∧
    (∀ a ∈ [p.urgentBase, p.normalBase, p.completionBase, p.notifyBase], a.toNat % 64 = 0))

/-- The end of a completion record's write: the record in host memory, the indices, the phase, the reservation, the OCT
entry with the marks of the rings that wait for one, and the MSI; an error is the fault RECORD_WRITE (R150 to R152, R147,
R187, R189). The record's 16 bytes hold its fields, the status by its code of R118, the phase and the ring of origin, and
zero elsewhere (11.5). The model's choices in it: a slot address that passes the end of the address space wraps (log entry
37), and a write that ends in error leaves host memory as it was (log entry 4). -/
def Obligations.CompletionWriteEnds : Prop :=
  (∀ (s : State) (c : Completion) (rest : List Completion), s.Works → s.rings.posting = c :: rest →
    let slot := s.params.completionBase + BitVec.ofNat 64 (16 * s.rings.post)
    ∃ t, exec (.completionWriteDone true) s = .next t ∧
      t = { s with
        rings := { s.rings with
          posting := rest
          post := (s.rings.post + 1) % s.params.completionSize
          phase := if (s.rings.post + 1) % s.params.completionSize = 0 then !s.rings.phase else s.rings.phase
          reserved := s.rings.reserved - 1
          irq := true
          urgent := t.rings.urgent
          normal := t.rings.normal }
        cmd := { s.cmd with oct := match c.entry with
          | some i => s.cmd.oct.set i none
          | none => s.cmd.oct }
        hostMem := s.hostMem.store slot (c.bytes s.rings.phase)
        emitted := (if s.rings.irq then [] else [.msi 0]) ++ .hostWrite slot (c.bytes s.rings.phase) :: s.emitted } ∧
      ∀ ring, t.subRing ring =
        if c.entry.isSome = true ∧ (s.subRing ring).waiting = some .octEntry then
          { s.subRing ring with waiting := none }
        else s.subRing ring) ∧
  (∀ (s : State) (c : Completion) (rest : List Completion), s.Works → s.rings.posting = c :: rest →
    ∃ t, exec (.completionWriteDone false) s = .next t ∧ s.HasFaulted t .recordWrite) ∧
  (∀ (c : Completion) (phase : Bool), (c.bytes phase).length = 16 ∧
    fieldAt (c.bytes phase) 0 2 = c.tag.toNat ∧ fieldAt (c.bytes phase) 2 1 = (match c.status with
      | .ok => 0 | .okLocal => 1 | .okStale => 2 | .unconfirmed => 3 | .denied => 4 | .linkLost => 5 | .notOwner => 6
      | .yielding => 7 | .inProgress => 8 | .linkNotUp => 9 | .linkState => 10 | .genLimit => 11 | .badCommand => 12
      | .badRange => 13 | .regionOff => 14 | .hostAccess => 15 | .aborted => 16) ∧
    flagAt (c.bytes phase) 3 0 = phase ∧ (flagAt (c.bytes phase) 3 1 = true ↔ c.ring = .normal) ∧
    clearFrom (c.bytes phase) 3 2 ∧ fieldAt (c.bytes phase) 4 4 = c.info.w0.toNat ∧
    fieldAt (c.bytes phase) 8 4 = c.info.w1.toNat ∧ fieldAt (c.bytes phase) 12 4 = c.info.w2.toNat)

/-! ## Commands at the head (07, 02, 09, 05) -/

/-- NOP and QUERY_REGION complete OK at the head, the second with the region summary, laid out as 11.5 gives it with its
codes of class and state; FENCE completes OK_LOCAL without a session, OK with an empty Transmit List, and otherwise leaves
the head with the newest frame's number as its mark (R17, R120, R131, R134, R135). -/
def Obligations.NopQueryAndFence : Prop :=
  (∀ (s : State) (i : Fin 32) (rest : List (Fin 32)) (e : OctEntry), s.HeadReady i rest e → e.command = .nop →
    exec .nop s = .next (s.headDone i rest e .ok { w0 := 0, w1 := 0, w2 := 0 })) ∧
  (∀ (s : State) (i : Fin 32) (rest : List (Fin 32)) (e : OctEntry) (r : Fin 64), s.HeadReady i rest e →
    e.command = .queryRegion r →
    exec .queryRegion s = .next (s.headDone i rest e .ok (s.summary r))) ∧
  (∀ (s : State) (r : Fin 64) (w0 : Word), (s.summary r w0).w0 = w0 ∧ (s.summary r w0).w1 = (s.region r).generation ∧
    let w := (s.summary r w0).w2
    (w.extractLsb' 0 4).toNat = (match (s.region r).cls with | .off => 0 | .acked => 1 | .cyclic => 2) ∧
    (w.extractLsb' 4 4).toNat =
      (match (s.region r).state with | .here => 0 | .there => 1 | .claiming => 2 | .granting => 3) ∧
    w.getLsbD 8 = (s.region r).held ∧ w.getLsbD 9 = (s.region r).pending.isSome ∧
    w.getLsbD 10 = (s.region r).stale ∧
    (w.getLsbD 11 = true ↔ ∃ j : Fin 16, s.watch.table[j].armed = true ∧ s.watch.table[j].spec.region = r) ∧
    (∀ k ∈ [12, 13, 14, 15], w.getLsbD k = false) ∧
    ((s.region r).stagingCount ≤ 32 → (w.extractLsb' 16 16).toNat = (s.region r).stagingCount)) ∧
  (∀ (s : State) (i : Fin 32) (rest : List (Fin 32)) (e : OctEntry), s.HeadReady i rest e → e.command = .fence →
    (s.link.state = .off ∨ s.link.state = .seeking ∨ s.link.state = .joining ∨ s.link.state = .rejected) →
    exec .fence s = .next (s.headDone i rest e .okLocal { w0 := 0, w1 := 0, w2 := 0 })) ∧
  (∀ (s : State) (i : Fin 32) (rest : List (Fin 32)) (e : OctEntry), s.HeadReady i rest e → e.command = .fence →
    (s.link.state = .syncing ∨ s.link.state = .up) → s.stream.list = [] →
    exec .fence s = .next (s.headDone i rest e .ok { w0 := 0, w1 := 0, w2 := 0 })) ∧
  (∀ (s : State) (i : Fin 32) (rest : List (Fin 32)) (e : OctEntry) (older : List TxEntry) (newest : TxEntry),
    s.HeadReady i rest e → e.command = .fence →
    (s.link.state = .syncing ∨ s.link.state = .up) → s.stream.list = older ++ [newest] →
    exec .fence s = .next (s.headWaits i rest { e with mark := some newest.seq }))

/-- A WRITE at the head whose staging transfer runs waits there; otherwise the first line of R125 that applies decides,
the staging count falls and the slot is freed, and a request that this lets through is granted (R29, R119, R123, R125).
Its words are its inline words or those its slot received, and a request is let through exactly when the staging count is
0, the region HERE and not held, and a request pending (R29, R34, R125). That the completion is requested before the grant
step is the model's choice (log entry 38). -/
def Obligations.WriteCompletesAtHead : Prop :=
  (∀ (s : State) (i : Fin 32) (rest : List (Fin 32)) (e : OctEntry) (r : Fin 64) (offset count : Nat)
    (source : WriteSource) (waitRemote : Bool), s.HeadReady i rest e →
    e.command = .write r offset count source waitRemote →
    let words := s.writeWords e source
    let info : Nat → Info := fun n =>
      { w0 := BitVec.ofNat 32 n, w1 := (s.region r).generation, w2 := BitVec.ofNat 32 (16 * (s.region r).state.code) }
    (s.stagingBusy e = true →
      exec .write s = .next { s with cmd.oct := s.cmd.oct.set i (some { e with phase := .executingWait }) }) ∧
    (s.stagingBusy e = false →
      ((s.region r).cls = .off →
        exec .write s = .next (((s.unstaged r e).headDone i rest e .regionOff (info 0)).grantIfDue r)) ∧
      ((s.region r).cls ≠ .off → (s.region r).state ≠ .here →
        exec .write s = .next ((s.unstaged r e).headDone i rest e .notOwner (info 0))) ∧
      ((s.region r).cls ≠ .off → (s.region r).state = .here → s.stagingFailed e = true →
        exec .write s = .next (((s.unstaged r e).headDone i rest e .hostAccess (info 0)).grantIfDue r)) ∧
      ((s.region r).cls = .cyclic → (s.region r).state = .here → s.stagingFailed e = false →
        exec .write s = .next
          ((((s.apply r offset words .localHost).unstaged r e).headDone i rest e .ok (info words.length)).grantIfDue
            r)) ∧
      ((s.region r).cls = .acked → (s.region r).state = .here → s.stagingFailed e = false → s.streaming = false →
        exec .write s = .next
          ((((s.apply r offset words .localHost).unstaged r e).headDone i rest e .okLocal
            (info words.length)).grantIfDue r)))) ∧
  (∀ (s : State) (e : OctEntry) (words : List Word), s.writeWords e (.inline words) = words) ∧
  (∀ (s : State) (e : OctEntry), e.staging = none → s.stagingBusy e = false ∧ s.stagingFailed e = false) ∧
  (∀ (s : State) (e : OctEntry) (j : Fin 8) (slot : StagingSlot) (addr : Addr), e.staging = some j →
    s.cmd.staging[j] = some slot → s.writeWords e (.buffer addr) = slot.words ∧
      (s.stagingBusy e = true ↔ slot.arrived = false ∧ slot.error = false) ∧ s.stagingFailed e = slot.error) ∧
  (∀ (s : State) (r : Fin 64) (e : OctEntry), ∃ t, s.unstaged r e = t ∧
    t = { s with
      regions := s.regions.set r { s.region r with stagingCount := (s.region r).stagingCount - 1 }
      cmd.staging := match e.staging with
        | some j => s.cmd.staging.set j none
        | none => s.cmd.staging
      rings := { s.rings with urgent := t.rings.urgent, normal := t.rings.normal }
      stream.waitWrite := false } ∧
    ∀ ring, t.subRing ring =
      if e.staging.isSome = true ∧ (s.subRing ring).waiting = some .stagingSlot then
        { s.subRing ring with waiting := none } else s.subRing ring) ∧
  (∀ (s : State) (r : Fin 64),
    let due := (s.region r).stagingCount = 0 ∧ (s.region r).state = .here ∧ (s.region r).held = false ∧
      (s.region r).pending.isSome = true
    (¬ due → s.grantIfDue r = s) ∧
    (due → (s.region r).generation ≠ 4294967295#32 → (s.region r).cls ≠ .cyclic →
      s.grantIfDue r = s.granted r none) ∧
    (due → (s.region r).generation ≠ 4294967295#32 → (s.region r).cls = .cyclic →
      s.mirror.rangeGood (64 * r.val) 64 = true →
      s.grantIfDue r = s.granted r (some (s.mirror.values (64 * r.val) 64))) ∧
    (due → (s.region r).cls = .cyclic → s.mirror.rangeGood (64 * r.val) 64 = false → s.working = true →
      s.HasFaulted (s.grantIfDue r) .mirrorParity))

/-- A WRITE to an ACKED region in HERE with the session running: its batch enters the Transmit List and the words are
applied in the same step, the WRITE completing OK or, with WAIT_REMOTE, awaiting the acknowledgement; without room for 95
UPDATE frames nothing enters and the WRITE waits at the head. The batch has a frame for every 16 words in offset order,
the last with last_of_command set (R46 to R48, R126, R127). That the completion is requested before the grant step is the
model's choice (log entry 38). -/
def Obligations.WriteBatchEnters : Prop :=
  (∀ (s : State) (i : Fin 32) (rest : List (Fin 32)) (e : OctEntry) (r : Fin 64) (offset count : Nat)
    (source : WriteSource) (waitRemote : Bool), s.HeadReady i rest e →
    e.command = .write r offset count source waitRemote → s.stagingBusy e = false → s.stagingFailed e = false →
    (s.region r).cls = .acked → (s.region r).state = .here → s.streaming = true →
    let words := s.writeWords e source
    let frames := writeBatch words.length r offset words
    let info : Info := { w0 := BitVec.ofNat 32 words.length, w1 := (s.region r).generation, w2 := 0 }
    (s.updateCount + frames.length ≤ 95 → waitRemote = false →
      exec .write s = .next (((((s.enqueueBatch frames none).apply r offset words .localHost).unstaged r e).headDone
        i rest e .ok info).grantIfDue r)) ∧
    (s.updateCount + frames.length ≤ 95 → waitRemote = true →
      exec .write s = .next (((((s.enqueueBatch frames (some i)).apply r offset words .localHost).unstaged r e).headWaits
        i rest { e with staging := none, info := info }).grantIfDue r)) ∧
    (95 < s.updateCount + frames.length →
      exec .write s = .next { s with
        cmd.oct := s.cmd.oct.set i (some { e with phase := .executingWait }), stream.waitWrite := true })) ∧
  (∀ (s : State) (frames : List SeqContent) (owner : Option (Fin 32)), s.enqueueBatch frames owner = { s with
    stream.list := s.stream.list ++ frames.mapIdx fun k c =>
      { content := c, seq := s.stream.nextSeq + BitVec.ofNat 8 k, sent := false, resend := false, owner := owner }
    stream.nextSeq := s.stream.nextSeq + BitVec.ofNat 8 frames.length }) ∧
  (∀ (r : Fin 64) (offset : Nat) (words : List Word),
    let frames := writeBatch words.length r offset words
    frames.length = (words.length + 15) / 16 ∧
    ∀ k, k < frames.length → frames[k]? = some (.update (BitVec.ofNat 8 r.val) (BitVec.ofNat 8 (offset + 16 * k))
      ((words.drop (16 * k)).take 16) (decide (k + 1 = frames.length)) false false))

/-- An apply writes every word of its range with correct parity, leaves every other word as it was, and reports the range
with its values before and after; parity is correct where the count of one bits among the 32 bits of the word and its
parity bit is odd (R1, R3). -/
def Obligations.AppliesReadBack : Prop :=
  (∀ (m : Mirror) (base : Nat) (words : List Word), m.wf = true → base + words.length ≤ 4096 →
    (∀ k (h : k < words.length), ((m.writeRange base words).read (base + k)).value = words[k] ∧
      ((m.writeRange base words).read (base + k)).good = true) ∧
    (∀ a, (a < base ∨ base + words.length ≤ a) → (m.writeRange base words).read a = m.read a) ∧
    (m.writeRange base words).wf = true) ∧
  (∀ w : MirrorWord, w.good = true ↔
    ((List.range 32).countP fun k => w.value.getLsbD k) % 2 = if w.parity = true then 0 else 1) ∧
  (∀ (s : State) (r : Fin 64) (offset : Nat) (words : List Word) (source : ApplySource),
    s.apply r offset words source = { s with
      mirror := s.mirror.writeRange (64 * r.val + offset) words
      watch.reports := s.watch.reports ++ [{
        region := r, first := offset, source := source,
        before := s.mirror.values (64 * r.val + offset) words.length, after := words }] })

/-- READ captures at the head and delivers at the end of its output transfer; class OFF and a parity error (R4, R7, R119,
R124, R129, R130, R154). That a READ which completes REGION_OFF has three zero words is the model's reading (log entry
21), and that a transfer which ends in error leaves host memory as it was is the model's choice (log entry 4). -/
def Obligations.ReadCapturesAndDelivers : Prop :=
  (∀ (s : State) (i : Fin 32) (rest : List (Fin 32)) (e : OctEntry) (r : Fin 64) (offset count : Nat) (addr : Addr)
    (j : Fin 4), s.HeadReady i rest e → e.command = .read r offset count addr → e.buffer = some j →
    ((s.region r).cls = .off →
      exec .read s = .next ((s.freeBuffer (some j)).headDone i rest e .regionOff { w0 := 0, w1 := 0, w2 := 0 })) ∧
    ((s.region r).cls ≠ .off → s.mirror.rangeGood (64 * r.val + offset) count = true →
      let captured : Capture :=
        { words := s.mirror.values (64 * r.val + offset) count, generation := (s.region r).generation,
          stale := (s.region r).stale }
      exec .read s = .next ({ s with
        cmd.buffers := s.cmd.buffers.set j (some { entry := i, capture := some captured }) }.headWaits i rest e)) ∧
    ((s.region r).cls ≠ .off → s.mirror.rangeGood (64 * r.val + offset) count = false →
      ∃ t, exec .read s = .next t ∧ s.HasFaulted t .mirrorParity)) ∧
  (∀ (s : State) (i : Fin 32) (e : OctEntry) (r : Fin 64) (offset count : Nat) (addr : Addr) (j : Fin 4) (c : Capture)
    (ok : Bool), s.dev.perst = false → s.cmd.buffers[j] = some { entry := i, capture := some c } →
    s.cmd.oct[i] = some e → e.command = .read r offset count addr → e.buffer = some j →
    let u := if ok then { s with
      hostMem := s.hostMem.store addr (wordBytes c.words), emitted := .hostWrite addr (wordBytes c.words) :: s.emitted }
      else s
    (s.dev.state = .running → exec (.readOutputDone j ok) s = .next ((u.freeBuffer (some j)).withCompletion i e
      (if ok then (if c.stale then .okStale else .ok) else .hostAccess)
      { w0 := if ok then BitVec.ofNat 32 c.words.length else 0, w1 := c.generation,
        w2 := if c.stale then 1024 else 0 })) ∧
    (s.dev.state = .stopping → exec (.readOutputDone j ok) s = .next ((u.freeBuffer (some j)).aborted i e))) ∧
  (∀ (m : Mirror) (a count : Nat), (m.values a count).length = count ∧
    (∀ k, k < count → (m.values a count)[k]? = some (m.read (a + k)).value) ∧
    (m.rangeGood a count = true ↔ ∀ k, k < count → (m.read (a + k)).good = true)) ∧
  (∀ (s : State) (j : Fin 4), (s.freeBuffer (some j)).cmd = { s.cmd with buffers := s.cmd.buffers.set j none } ∧
    ∀ ring, (s.freeBuffer (some j)).subRing ring =
      if (s.subRing ring).waiting = some .readBuffer then { s.subRing ring with waiting := none } else s.subRing ring)

/-- STATS copies the twelve counters at the head, clears them if asked, and completes at the end of its output transfer;
the counters stand in the order of R133 (R119, R133, R154). That a transfer which ends in error leaves host memory as it
was is the model's choice (log entry 4). -/
def Obligations.StatsCopiesAndDelivers : Prop :=
  (∀ s : State, s.dev.counters.toList = [s.counter .framesSent, s.counter .framesReceived, s.counter .framesBad,
    s.counter .retransmitRounds, s.counter .duplicates, s.counter .outOfOrder, s.counter .epochMismatch,
    s.counter .snapshotsStale, s.counter .protocolErrors, s.counter .sweepOverruns, s.counter .notifyLost,
    s.counter .linkLosses]) ∧
  (∀ (s : State) (i : Fin 32) (rest : List (Fin 32)) (e : OctEntry) (addr : Addr) (clear : Bool),
    s.HeadReady i rest e → e.command = .stats addr clear →
    exec .stats s = .next { s with
      cmd := { s.cmd with
        oct := s.cmd.oct.set i (some { e with phase := .executingWait }), statsCopy := some s.dev.counters }
      dev.counters := if clear then Vector.replicate 12 0 else s.dev.counters }) ∧
  (∀ (s : State) (i : Fin 32) (rest : List (Fin 32)) (e : OctEntry) (addr : Addr) (clear : Bool)
    (copy : Vector Word 12) (ok : Bool), s.dev.perst = false → s.cmd.statsCopy = some copy → s.cmd.queue = i :: rest →
    s.cmd.oct[i] = some e → e.command = .stats addr clear → e.phase = .executingWait →
    let u := { s with
      cmd.statsCopy := none
      hostMem := if ok then s.hostMem.store addr (wordBytes copy.toList) else s.hostMem
      emitted := if ok then .hostWrite addr (wordBytes copy.toList) :: s.emitted else s.emitted }
    (s.dev.state = .running → exec (.statsOutputDone ok) s = .next (u.headDone i rest e (if ok then .ok else .hostAccess)
      { w0 := if ok then 12 else 0, w1 := if clear then 1 else 0, w2 := 0 })) ∧
    (s.dev.state = .stopping → exec (.statsOutputDone ok) s = .next (u.aborted i e)))

/-- CLAIM at the head: the checks in their order, and the start of the claim (R20, R22, R23). -/
def Obligations.ClaimChecksInOrder : Prop :=
  ∀ (s : State) (i : Fin 32) (rest : List (Fin 32)) (e : OctEntry) (r : Fin 64) (noWait : Bool), s.HeadReady i rest e →
    e.command = .claim r noWait →
    exec .claim s = .next
      (if (s.region r).cls = .off then s.headDone i rest e .regionOff (s.summary r)
      else if (s.region r).state = .here then s.headDone i rest e .ok (s.summary r 256)
      else if (s.region r).state = .claiming ∨ (s.region r).state = .granting then
        s.headDone i rest e .inProgress (s.summary r)
      else if s.link.state ≠ .up then s.headDone i rest e .linkNotUp (s.summary r)
      else if (s.region r).generation = 4294967295#32 then s.headDone i rest e .genLimit (s.summary r)
      else if ∃ t ∈ s.stream.list, t.content.handsOver r = true then s.headDone i rest e .inProgress (s.summary r)
      else ((s.withControl (.ownReq (BitVec.ofNat 8 r.val) (s.region r).generation noWait)).withRegion r
        { s.region r with state := .claiming, claimEntry := some i }).headWaits i rest e)

/-- RELEASE at the head: the checks in their order, and the grant that starts the release, with the content of a CYCLIC
region or the fault of its capture (R7, R20, R22, R25, R32). -/
def Obligations.ReleaseChecksInOrder : Prop :=
  ∀ (s : State) (i : Fin 32) (rest : List (Fin 32)) (e : OctEntry) (r : Fin 64), s.HeadReady i rest e →
    e.command = .release r →
    let started := fun content : Option (List Word) =>
      ((s.withControl (.ownGrant (BitVec.ofNat 8 r.val) ((s.region r).generation + 1) content)).withRegion r
        { s.region r with state := .granting, held := false, pending := none, releaseEntry := some i }).headWaits i rest e
    let refused := (s.region r).cls = .off ∨ (s.region r).state ≠ .here ∨ s.link.state ≠ .up ∨
      (s.region r).generation = 4294967295#32 ∨ ∃ t ∈ s.stream.list, t.content.handsOver r = true
    (refused → exec .release s = .next
      (if (s.region r).cls = .off then s.headDone i rest e .regionOff (s.summary r)
      else if (s.region r).state = .claiming ∨ (s.region r).state = .granting then
        s.headDone i rest e .inProgress (s.summary r)
      else if (s.region r).state = .there then s.headDone i rest e .notOwner (s.summary r)
      else if s.link.state ≠ .up then s.headDone i rest e .linkNotUp (s.summary r)
      else if (s.region r).generation = 4294967295#32 then s.headDone i rest e .genLimit (s.summary r)
      else s.headDone i rest e .inProgress (s.summary r))) ∧
    (¬ refused → (s.region r).cls = .acked → exec .release s = .next (started none)) ∧
    (¬ refused → (s.region r).cls = .cyclic → s.mirror.rangeGood (64 * r.val) 64 = true →
      exec .release s = .next (started (some (s.mirror.values (64 * r.val) 64)))) ∧
    (¬ refused → (s.region r).cls = .cyclic → s.mirror.rangeGood (64 * r.val) 64 = false →
      ∃ t, exec .release s = .next t ∧ s.HasFaulted t .mirrorParity)

/-- HOLD sets the held mark of a region in HERE; UNHOLD clears it and grants a request that waits with a staging count of
0 (R27, R28, R32). The summary in the completions REGION_OFF and NOT_OWNER is read from R119 (log entry 21). -/
def Obligations.HoldAndUnholdRegions : Prop :=
  (∀ (s : State) (i : Fin 32) (rest : List (Fin 32)) (e : OctEntry) (r : Fin 64), s.HeadReady i rest e →
    e.command = .hold r → exec .hold s = .next
      (if (s.region r).cls = .off then s.headDone i rest e .regionOff (s.summary r)
      else if (s.region r).state ≠ .here then s.headDone i rest e .notOwner (s.summary r)
      else (s.withRegion r { s.region r with held := true }).headDone i rest e .ok
        ((s.withRegion r { s.region r with held := true }).summary r))) ∧
  (∀ (s : State) (i : Fin 32) (rest : List (Fin 32)) (e : OctEntry) (r : Fin 64), s.HeadReady i rest e →
    e.command = .unhold r →
    let freed := s.withRegion r { s.region r with held := false }
    let grants := (s.region r).held = true ∧ (s.region r).pending.isSome = true ∧ (s.region r).stagingCount = 0
    ((s.region r).cls = .off ∨ (s.region r).state ≠ .here → exec .unhold s = .next
      (if (s.region r).cls = .off then s.headDone i rest e .regionOff (s.summary r)
      else s.headDone i rest e .notOwner (s.summary r))) ∧
    ((s.region r).cls ≠ .off → (s.region r).state = .here →
      (¬ grants → exec .unhold s = .next (freed.headDone i rest e .ok (freed.summary r))) ∧
      (grants → (s.region r).generation ≠ 4294967295#32 → (s.region r).cls = .acked →
        exec .unhold s = .next ((freed.granted r none).headDone i rest e .ok ((freed.granted r none).summary r))) ∧
      (grants → (s.region r).generation ≠ 4294967295#32 → (s.region r).cls = .cyclic →
        s.mirror.rangeGood (64 * r.val) 64 = true →
        let u := freed.granted r (some (s.mirror.values (64 * r.val) 64))
        exec .unhold s = .next (u.headDone i rest e .ok (u.summary r))) ∧
      (grants → (s.region r).cls = .cyclic → s.mirror.rangeGood (64 * r.val) 64 = false →
        ∃ t, exec .unhold s = .next t ∧ s.HasFaulted t .mirrorParity)))

/-- SET_CLASS at the head: LINK_STATE while the link seeks or runs, whatever the region's state, IN_PROGRESS for a region in
GRANTING, and otherwise the entry as the table of R15 sets it. A region in CLAIMING cannot meet it with the link OFF or
REJECTED (R15), and that form is left out. The summary in the completions LINK_STATE and IN_PROGRESS is read from R119
(log entry 21). -/
def Obligations.SetClassSetsEntry : Prop :=
  ∀ (s : State) (i : Fin 32) (rest : List (Fin 32)) (e : OctEntry) (r : Fin 64) (cls : RegionClass) (here : Bool),
    s.HeadReady i rest e → e.command = .setClass r cls here →
    ((s.region r).state = .claiming → s.link.state ≠ .off ∧ s.link.state ≠ .rejected) →
    let u := s.withRegion r { s.region r with
      cls := cls, state := if here then .here else .there, held := false, pending := none, stale := !here,
      claimEntry := none, releaseEntry := none, lastSweep := none, age := 0 }
    exec .setClass s = .next
      (if s.link.state = .seeking ∨ s.link.state = .joining ∨ s.link.state = .syncing ∨ s.link.state = .up then
        s.headDone i rest e .linkState (s.summary r)
      else if (s.region r).state = .granting then s.headDone i rest e .inProgress (s.summary r)
      else u.headDone i rest e .ok (u.summary r))

/-- WATCH_SET replaces the named slot whole and arms it, and completes REGION_OFF, the slot as it was, for a region of
class OFF; WATCH_CLEAR disarms the named slot, keeps its other fields and completes OK; the completions name the slot and
whether it was armed (R157, R159, R160). What the words of the REGION_OFF completion hold is the model's reading (log
entry 21). -/
def Obligations.WatchSlotsSetAndClear : Prop :=
  (∀ (s : State) (i : Fin 32) (rest : List (Fin 32)) (e : OctEntry) (slot : Fin 16) (spec : WatchSpec),
    s.HeadReady i rest e → e.command = .watchSet slot spec →
    let info : Info :=
      { w0 := BitVec.ofNat 32 slot.val ||| (if s.watch.table[slot].armed then 256 else 0), w1 := 0, w2 := 0 }
    ((s.region spec.region).cls = .off → exec .watchSet s = .next (s.headDone i rest e .regionOff info)) ∧
    ((s.region spec.region).cls ≠ .off → exec .watchSet s = .next
      ({ s with watch.table := s.watch.table.set slot { armed := true, spec := spec } }.headDone i rest e .ok info))) ∧
  (∀ (s : State) (i : Fin 32) (rest : List (Fin 32)) (e : OctEntry) (slot : Fin 16), s.HeadReady i rest e →
    e.command = .watchClear slot → ∃ t, exec .watchClear s = .next t ∧
      t = ({ s with watch.table := s.watch.table.set slot { s.watch.table[slot] with armed := false } }).headDone i rest
        e .ok { w0 := BitVec.ofNat 32 slot.val ||| (if s.watch.table[slot].armed then 256 else 0), w1 := 0, w2 := 0 } ∧
      ∀ r, t.watched r = true ↔ ∃ j : Fin 16, j ≠ slot ∧ s.watch.table[j].armed = true ∧ s.watch.table[j].spec.region = r)

/-- LINK_UP in OFF or REJECTED enters SEEKING with the entry actions of R85; elsewhere it changes nothing; its completion
carries the link state after the command (R82). -/
def Obligations.LinkUpEntersSeeking : Prop :=
  (∀ (s : State) (i : Fin 32) (rest : List (Fin 32)) (e : OctEntry), s.HeadReady i rest e → e.command = .linkUp →
    (s.link.state = .off ∨ s.link.state = .rejected) →
    exec .linkUp s = .next ({ s with
      link := { s.link with state := .seeking, helloTimer := some s.params.helloInterval }
      framer.hello := some { nodeId := s.params.nodeId, heard := none, joined := false, content := s.presentContent }
      }.headDone i rest e .ok { w0 := 1, w1 := 0, w2 := 0 })) ∧
  (∀ (s : State) (i : Fin 32) (rest : List (Fin 32)) (e : OctEntry), s.HeadReady i rest e → e.command = .linkUp →
    (s.link.state = .seeking ∨ s.link.state = .joining ∨ s.link.state = .syncing ∨ s.link.state = .up) →
    exec .linkUp s = .next
      (s.headDone i rest e .ok { w0 := BitVec.ofNat 32 s.link.state.code, w1 := 0, w2 := 0 }))

/-- LINK_DOWN: nothing in OFF, OFF without further effect in REJECTED, and otherwise a link loss with reason HOST; it
completes OK with the link state OFF (R83). That its completion follows those of the loss is the model's choice (log
entry 40). -/
def Obligations.LinkDownEndsLink : Prop :=
  ∀ (s : State) (i : Fin 32) (rest : List (Fin 32)) (e : OctEntry), s.HeadReady i rest e → e.command = .linkDown →
    (s.link.state = .off →
      exec .linkDown s = .next (s.headDone i rest e .ok { w0 := 0, w1 := 0, w2 := 0 })) ∧
    (s.link.state = .rejected → exec .linkDown s = .next ({ s with link.state := .off, framer.hello := none }.headDone
      i rest e .ok { w0 := 0, w1 := 0, w2 := 0 })) ∧
    (s.link.state = .seeking ∨ s.link.state = .joining ∨ s.link.state = .syncing ∨ s.link.state = .up →
      ∃ t, exec .linkDown s = .next t ∧
        t = { s.linkLoss .host with cmd := t.cmd, rings := t.rings } ∧ t.link.state = .off ∧ t.cmd.queue = rest ∧
        t.cmd.oct[i] = some e.finished ∧ t.rings.posting = (s.linkLoss .host).rings.posting ++
          [{ ring := e.ring, tag := e.tag, status := .ok, info := { w0 := 0, w1 := 0, w2 := 0 }, entry := some i }])

/-- What a link loss does, whatever its reason: the link and its records, the framer, the sweep, the stream, every region,
the counter, the event, and the completions of the commands it settles, with no other completion and no other OCT entry
changed (R42, R63, R78, R84, R98, R99, R113). A WRITE that waits for room is told to present: in a RUNNING part its batch is
refused, it commits and completes OK_LOCAL, and in STOPPING it only ceases to wait (R46, R63, R126). That it presents once
the pending requests are dropped, and so grants none, and that its completion may stand on either side of those of the
hand-over commands, are the model's choices (log entry 14). -/
def Obligations.LinkLossSettlesAll : Prop :=
  (∀ (s : State) (reason : LossReason),
    (s.stream.waitWrite = true → ∃ i rest e r offset count source waitRemote, s.cmd.queue = i :: rest ∧
      s.cmd.oct[i] = some e ∧ e.command = .write r offset count source waitRemote) →
    let t := s.linkLoss reason
    let ends := reason = .host ∨ reason = .stop
    let writes := s.writesOf s.stream.list .unconfirmed
    let fences := (List.finRange 32).filterMap fun i => (s.entry i).bind fun e =>
      if e.command = .fence ∧ e.phase = .awaitingEvent ∧ writes.all fun c => c.entry ≠ some i then
        s.completionOf i .linkLost .zero
      else none
    let handOvers := (List.finRange 64).filterMap fun r => match (s.region r).state with
      | .claiming => (s.region r).claimEntry.bind fun i => s.completionOf i .linkLost .zero
      | .granting => (s.region r).releaseEntry.bind fun i => s.completionOf i .unconfirmed .zero
      | _ => none
    let waiting := if s.stream.waitWrite = true ∧ s.dev.state = .running then
        (s.cmd.queue.head?.bind fun i => s.completionOf i .okLocal .zero).toList else []
    t.dev = (s.counted .linkLosses).dev ∧
    t.notif = { s.notif with queue := s.notif.queue ++ [.event (.linkLost reason)] } ∧
    t.link = { s.link with
      state := if ends then .off else .seeking
      epoch := s.link.epoch + 1
      peer := none
      peerContent := none
      fixed := none
      helloTimer := if ends then none else some s.params.helloInterval
      silenceTimer := none
      confirmDue := false
      refresh := none
      syncSent := false
      syncReceived := false } ∧
    t.framer = { s.framer with
      bye := if ends then some s.link.epoch else s.framer.bye
      hello := if ends then none else
        some { nodeId := s.params.nodeId, heard := none, joined := false, content := t.presentContent }
      turnCount := 0
      quietTimer := none
      idleDue := false } ∧
    t.sweep = { timer := none, number := s.sweep.number, cursor := none, offered := none, pending := false,
                overrun := false } ∧
    t.stream = { s.stream with
      list := [], timer := none, retryCount := 0, ackDue := false, sessionAcked := false, waitWrite := false } ∧
    (∀ r, t.region r = { s.region r with
      state := if (s.region r).state = .claiming then .there else (s.region r).state
      claimEntry := if (s.region r).state = .claiming then none else (s.region r).claimEntry
      releaseEntry := if (s.region r).state = .granting then none else (s.region r).releaseEntry
      stale := (s.region r).stale || decide ((s.region r).state = .claiming ∨ (s.region r).state = .there)
      pending := none
      stagingCount := (t.region r).stagingCount
      lastSweep := none
      age := 0 }) ∧
    t.emitted = s.emitted ∧ t.hostMem = s.hostMem ∧ t.pinLinkAct = s.pinLinkAct ∧
    t.rings = { s.rings with urgent := t.rings.urgent, normal := t.rings.normal, posting := t.rings.posting } ∧
    t.cmd.buffers = s.cmd.buffers ∧ t.cmd.statsCopy = s.cmd.statsCopy ∧
    (∃ more, t.rings.posting = s.rings.posting ++ more ∧ writes.Sublist more ∧
      (more.map fun c => { c with info := .zero }).Perm
        ((writes.map fun c => { c with info := .zero }) ++ fences ++ handOvers ++ waiting)) ∧
    (∀ i, t.entry i = (s.entry i).map fun e =>
      if (writes ++ fences ++ handOvers ++ waiting).any fun c => c.entry = some i then e.finished else e) ∧
    (∀ r i e, (s.region r).state = .claiming → (s.region r).claimEntry = some i → s.entry i = some e →
      ∃ info, { ring := e.ring, tag := e.tag, status := .linkLost, info := info, entry := some i } ∈ t.rings.posting) ∧
    (∀ r i e, (s.region r).state = .granting → (s.region r).releaseEntry = some i → s.entry i = some e →
      ∃ info, { ring := e.ring, tag := e.tag, status := .unconfirmed, info := info, entry := some i } ∈
        t.rings.posting) ∧
    (∀ f ∈ s.stream.list, ∀ i e region offset words refresh lastOfRegion,
      f.content = .update region offset words true refresh lastOfRegion → f.owner = some i → s.entry i = some e →
      { ring := e.ring, tag := e.tag, status := .unconfirmed, info := e.info, entry := some i } ∈ t.rings.posting) ∧
    (∀ i e m, s.entry i = some e → e.command = .fence → e.phase = .awaitingEvent → e.mark = some m →
      (∀ f ∈ s.stream.list, f.owner ≠ some i) →
      { ring := e.ring, tag := e.tag, status := .linkLost,
        info := { w0 := BitVec.ofNat 32 (m.toNat + 256), w1 := 0, w2 := 0 }, entry := some i } ∈ t.rings.posting)) ∧
  (∀ (s : State) (reason : LossReason), s.stream.waitWrite = false ∨ s.dev.state ≠ .running →
    let t := s.linkLoss reason
    t.mirror = s.mirror ∧ t.watch = s.watch ∧ t.cmd.queue = s.cmd.queue ∧ t.cmd.staging = s.cmd.staging ∧
    (∀ ring, t.subRing ring = s.subRing ring) ∧ ∀ r, (t.region r).stagingCount = (s.region r).stagingCount) ∧
  (∀ (s : State) (reason : LossReason) (i : Fin 32) (rest : List (Fin 32)) (e : OctEntry) (r : Fin 64)
    (offset count : Nat) (source : WriteSource) (waitRemote : Bool), s.stream.waitWrite = true →
    s.dev.state = .running → s.cmd.queue = i :: rest → s.cmd.oct[i] = some e →
    e.command = .write r offset count source waitRemote → (s.region r).state = .here →
    (∀ f ∈ s.stream.list, f.owner ≠ some i) →
    (∀ q, (s.region q).claimEntry ≠ some i ∧ (s.region q).releaseEntry ≠ some i) →
    let words := s.writeWords e source
    let t := s.linkLoss reason
    t.mirror = s.mirror.writeRange (64 * r.val + offset) words ∧
    t.watch = { s.watch with
      reports := s.watch.reports ++ [{
        region := r, first := offset, source := .localHost,
        before := s.mirror.values (64 * r.val + offset) words.length, after := words }] } ∧
    t.cmd.queue = rest ∧ t.cmd.oct[i] = some e.finished ∧
    { ring := e.ring, tag := e.tag, status := .okLocal,
      info := { w0 := BitVec.ofNat 32 words.length, w1 := (s.region r).generation, w2 := 0 }, entry := some i } ∈
      t.rings.posting ∧
    (∀ j : Fin 8, t.cmd.staging[j] = if e.staging = some j then none else s.cmd.staging[j]) ∧
    (∀ ring, t.subRing ring =
      if e.staging.isSome = true ∧ (s.subRing ring).waiting = some .stagingSlot then
        { s.subRing ring with waiting := none } else s.subRing ring) ∧
    ∀ q, (t.region q).stagingCount =
      if q = r then (s.region r).stagingCount - 1 else (s.region q).stagingCount)

/-- The end of a staging transfer, with host memory as the read found it at the WRITE's buffer: the slot records it, a
WRITE that waits for it at the head then does what it does when it reaches the head with its data there, and in STOPPING
the WRITE completes ABORTED (R122, R123, R125, R154, R189). -/
def Obligations.StagingTransferEnds : Prop :=
  ∀ (s : State) (j : Fin 8) (slot : StagingSlot) (e : OctEntry) (r : Fin 64) (offset count : Nat)
    (addr : Addr) (waitRemote : Bool) (result : Option (List FoundByte)), s.dev.perst = false →
    s.cmd.staging[j] = some slot → slot.arrived = false → slot.error = false → s.cmd.oct[slot.entry] = some e →
    e.command = .write r offset count (.buffer addr) waitRemote → e.staging = some j →
    (∀ found, result = some found → found.length = 4 * count) →
    let filled : StagingSlot := match result with
      | some found => { slot with words := bytesWords (s.hostMem.load addr found), arrived := true }
      | none => { slot with error := true }
    (s.dev.state = .running → e.phase = .queued →
      exec (.stagingTransferDone j result) s = .next { s with cmd.staging := s.cmd.staging.set j (some filled) }) ∧
    (s.dev.state = .running → e.phase = .executingWait → s.cmd.queue.head? = some slot.entry →
      exec (.stagingTransferDone j result) s = exec .write { s with cmd := { s.cmd with
        staging := s.cmd.staging.set j (some filled)
        oct := s.cmd.oct.set slot.entry (some { e with phase := .queued }) } }) ∧
    (s.dev.state = .stopping →
      exec (.stagingTransferDone j result) s = .next ((s.unstaged r e).aborted slot.entry e))

/-! ## The Link Framer (06) -/

/-- What the transmit arbiter takes when the pair is free, but for snapshots: a BYE first, in every state but FAULTED with
no peer, where no frame is sent; then by the link's state a HELLO, the offered sequenced frame, an ACK, an IDLE, or
nothing; and which sequenced frame is offered, and when none is (R49 to R51, R81, R107 to R111, R113). That a BYE left from
an earlier loss stays through FAULTED is the model's reading (log entry 39), and that the BYE taken there restarts no quiet
timer its choice (log entry 42). -/
def Obligations.FrameTakeFollowsArbiter : Prop :=
  (∀ (s : State) (epoch : BitVec 16), s.dev.perst = false → s.framer.transmitting = none → s.framer.bye = some epoch →
    (s.dev.state = .faulted → s.link.state = .joining ∨ s.link.state = .syncing ∨ s.link.state = .up) →
    exec .frameTake s = .next ({ s with framer.bye := none }.sending epoch .bye)) ∧
  (∀ s : State, s.dev.perst = false → s.dev.state = .faulted →
    (s.link.state = .off ∨ s.link.state = .seeking ∨ s.link.state = .rejected) → exec .frameTake s = .next s) ∧
  (∀ (s : State) (h : HelloBody), s.Works → s.framer.transmitting = none → s.framer.bye = none →
    s.framer.hello = some h → (s.streaming = false ∨ s.link.confirmDue = true) →
    exec .frameTake s = .next ({ s with
      framer.hello := none, link.confirmDue := if h.joined then false else s.link.confirmDue }.sending
        s.link.epoch (.hello h))) ∧
  (∀ s : State, s.Works → s.framer.transmitting = none → s.framer.bye = none → s.streaming = true →
    (s.link.confirmDue = false ∨ s.framer.hello = none) →
    let turn := s.sweep.offered = none ∨ s.framer.turnCount < 4
    (∀ k f, turn → s.offeredIndex = some k → s.stream.list[k]? = some f →
      exec .frameTake s = .next ({ s with
        stream.list := s.stream.list.set k { f with sent := true, resend := false }
        stream.ackDue := false
        stream.timer := some (s.stream.timer.getD s.params.ackTimeout)
        framer.turnCount := if s.sweep.offered.isSome then min (s.framer.turnCount + 1) 4 else s.framer.turnCount
        }.sending s.link.epoch (.sequenced f.seq (s.stream.expected - 1) f.content))) ∧
    ((¬ turn ∨ s.offeredIndex = none) → s.stream.ackDue = true →
      exec .frameTake s = .next ({ s with stream.ackDue := false }.sending s.link.epoch (.ack (s.stream.expected - 1)))) ∧
    (s.offeredIndex = none → s.stream.ackDue = false → s.sweep.offered = none →
      exec .frameTake s = .next (if s.framer.idleDue then s.sending s.link.epoch .idle else s))) ∧
  (∀ s : State, s.Works → s.framer.transmitting = none → s.framer.bye = none → s.streaming = false →
    s.framer.hello = none → exec .frameTake s = .next s) ∧
  (∀ s : State, s.dev.perst = false → s.framer.bye = none → s.working = false → exec .frameTake s = .next s) ∧
  (∀ s : State, s.framer.transmitting.isSome = true → exec .frameTake s = .next s) ∧
  (∀ (s : State) (k : Nat), s.offeredIndex = some k → s.streaming = true ∧ ∃ f, s.stream.list[k]? = some f ∧
    ((f.resend = true ∧ ∀ j < k, ∀ g, s.stream.list[j]? = some g → g.resend = false) ∨
      ((∀ g ∈ s.stream.list, g.resend = false) ∧ f.sent = false ∧ s.sentCount < s.params.window ∧
        ∀ j < k, ∀ g, s.stream.list[j]? = some g → g.sent = true))) ∧
  (∀ s : State, s.offeredIndex = none ↔ s.streaming = false ∨
    (∀ g ∈ s.stream.list, g.resend = false) ∧
      ((∀ g ∈ s.stream.list, g.sent = true) ∨ s.params.window ≤ s.sentCount))

/-- The take of an offered snapshot: captured and sent with the present sweep number and generation, the cursor search
then going on; withdrawn where its region is no longer CYCLIC and HERE; the fault of its capture (R7, R69 to R71, R109,
R110). That the turn count is 0 also in the step in which a pending sweep offers its first snapshot is the model's reading
(log entry 33). -/
def Obligations.SnapshotTakeFollowsCursor : Prop :=
  (∀ (s : State) (r : Fin 64), s.Works → s.framer.transmitting = none → s.framer.bye = none → s.streaming = true →
    (s.link.confirmDue = false ∨ s.framer.hello = none) → s.sweep.offered = some r → s.stream.ackDue = false →
    (4 ≤ s.framer.turnCount ∨ s.offeredIndex = none) →
    ((s.region r).cls = .cyclic → (s.region r).state = .here → s.mirror.rangeGood (64 * r.val) 64 = true →
      exec .frameTake s = .next ({ s.sending s.link.epoch (.snapshot (BitVec.ofNat 8 r.val) s.sweep.number
        (s.region r).generation (s.mirror.values (64 * r.val) 64)) with framer.turnCount := 0 }.sweepOn r)) ∧
    ((s.region r).cls = .cyclic → (s.region r).state = .here → s.mirror.rangeGood (64 * r.val) 64 = false →
      ∃ t, exec .frameTake s = .next t ∧ s.HasFaulted t .mirrorParity) ∧
    ((s.region r).cls ≠ .cyclic ∨ (s.region r).state ≠ .here →
      exec .frameTake s = exec .frameTake (s.sweepOn r))) ∧
  (∀ (s : State) (r : Fin 64),
    (∀ q, s.sweepTarget (r.val + 1) = some q →
      s.sweepOn r = { s with sweep.cursor := some q, sweep.offered := some q }) ∧
    (s.sweepTarget (r.val + 1) = none → s.sweep.pending = false → s.sweepOn r =
      { s with sweep.cursor := none, sweep.offered := none, sweep.overrun := false, framer.turnCount := 0 }) ∧
    (s.sweepTarget (r.val + 1) = none → s.sweep.pending = true → s.sweepOn r = { s with
      sweep := { s.sweep with
        pending := false, number := s.sweep.number + 1, cursor := s.sweepTarget 0, offered := s.sweepTarget 0,
        overrun := if (s.sweepTarget 0).isSome then s.sweep.overrun else false }
      framer.turnCount := 0 })) ∧
  (∀ (s : State) (low : Nat),
    (∀ q, s.sweepTarget low = some q ↔ low ≤ q.val ∧ (s.region q).cls = .cyclic ∧ (s.region q).state = .here ∧
      ∀ p : Fin 64, low ≤ p.val → p < q → ¬ ((s.region p).cls = .cyclic ∧ (s.region p).state = .here)) ∧
    (s.sweepTarget low = none ↔
      ∀ p : Fin 64, low ≤ p.val → ¬ ((s.region p).cls = .cyclic ∧ (s.region p).state = .here)))

/-- The receive assembly, and the end of a transmission: what each indication does while frames are collected, and that
the pair is ignored outside RUNNING and STOPPING (R102, R105 to R107, R111). And which bytes pass the checks: a frame of at
least 8 bytes, of a known kind and of a length and word count permitted for it, with the CRC-32 of all but its last four
bytes in those four; every other is refused (R103 to R105; the bit order of the CRC-32 is that of log entry 9). -/
def Obligations.ReceiveAssemblyAndSend : Prop :=
  (∀ s : State, s.Works → exec .startDelimiter s = .next (match s.framer.assembly with
    | none => { s with framer.assembly := some { bytes := [], discard := false } }
    | some _ => { s.counted .framesBad with framer.assembly := some { bytes := [], discard := false } })) ∧
  (∀ s : State, exec (.receiveFrameEnd true) s = exec .startDelimiter s) ∧
  (∀ (s : State) (a : Assembly) (b : Byte), s.Works → s.framer.assembly = some a →
    exec (.dataByte b) s = .next { s with framer.assembly := some (if a.bytes.length < 296 then
      { a with bytes := a.bytes ++ [b] } else { a with discard := true }) }) ∧
  (∀ (s : State) (a : Assembly), s.Works → s.framer.assembly = some a →
    exec .codeError s = .next { s with framer.assembly := some { a with discard := true } }) ∧
  (∀ (s : State) (a : Assembly), s.Works → s.framer.assembly = some a →
    (a.discard = true ∨ checkFrame a.bytes = none) →
    exec (.receiveFrameEnd false) s = .next { s.counted .framesBad with framer.assembly := none }) ∧
  (∀ (s : State) (a : Assembly) (f : Frame), s.Works → s.framer.assembly = some a → a.discard = false →
    checkFrame a.bytes = some f →
    exec (.receiveFrameEnd false) s = .next { s.counted .framesReceived with
      framer.assembly := none, framer.heldFrames := s.framer.heldFrames ++ [f], pinLinkAct := true }) ∧
  (∀ (s : State) (b : Byte), s.Works → s.framer.assembly = none →
    exec (.dataByte b) s = .next s ∧ exec .codeError s = .next s ∧ exec (.receiveFrameEnd false) s = .next s) ∧
  (∀ (s : State) (b : Byte) (cut : Bool), s.dev.perst = false → s.working = false →
    exec .startDelimiter s = .next s ∧ exec (.dataByte b) s = .next s ∧ exec .codeError s = .next s ∧
      exec (.receiveFrameEnd cut) s = .next s) ∧
  (∀ (s : State) (f : Frame), s.dev.perst = false → s.framer.transmitting = some f →
    exec .transmitEnd s = .next { s with framer.transmitting := none, emitted := .lineFrame f.bytes :: s.emitted }) ∧
  (∀ b : List Byte, (FramePasses b → ∃ f, checkFrame b = some f) ∧ (¬ FramePasses b → checkFrame b = none))

/-- Every frame the part can send, between its delimiters, passes the checks of a receiver and is read back whole (R103
to R105, R186); and its bytes hold kind code, epoch and every field of its kind where 11.7 puts them, zero in what is
reserved, and the CRC-32 last (R104, R185; the bit order of the CRC-32 is that of log entry 9). -/
def Obligations.FrameBytesReadBack : Prop :=
  (∀ f : Frame, f.body.permitted = true → checkFrame f.bytes = some f ∧ f.bytes.length ≤ 296) ∧
  (∀ f : Frame, f.body.permitted = true →
    let b := f.bytes
    let words := fun l : List Word => ∀ (k : Nat) (w : Word), l[k]? = some w → fieldAt b (0x0C + 4 * k) 4 = w.toNat
    fieldAt b 0x01 2 = f.epoch.toNat ∧ fieldAt b (b.length - 4) 4 = (crc32 (b.take (b.length - 4))).toNat ∧
    match f.body with
    | .hello h =>
      b.length = 296 ∧ byteAt b 0 = 1 ∧ fieldAt b 0x03 2 = h.nodeId.toNat ∧
      fieldAt b 0x05 2 = (match h.heard with | some epoch => epoch.toNat | none => 0) ∧
      flagAt b 0x07 0 = h.heard.isSome ∧ flagAt b 0x07 1 = h.joined ∧ flagAt b 0x07 2 = h.content.fresh ∧
      clearFrom b 0x07 3 ∧ fieldAt b 0x08 2 = h.content.sweepPeriod.toNat ∧ zeroBetween b 0x0A 0x0B ∧
      ∀ r : Fin 64, flagAt b (0x0C + r.val / 4) (2 * (r.val % 4)) = h.content.classMap[r].getLsbD 0 ∧
        flagAt b (0x0C + r.val / 4) (2 * (r.val % 4) + 1) = h.content.classMap[r].getLsbD 1 ∧
        flagAt b (0x1C + r.val / 8) (r.val % 8) = h.content.claims[r] ∧
        fieldAt b (0x24 + 4 * r.val) 4 = h.content.generations[r].toNat
    | .sequenced seq acked content =>
      byteAt b 0x03 = seq ∧ byteAt b 0x04 = acked ∧
      (match content with
        | .update region offset l last refresh lastOfRegion =>
          b.length = 16 + 4 * l.length ∧ byteAt b 0 = 2 ∧ byteAt b 0x05 = region ∧ byteAt b 0x06 = offset ∧
          fieldAt b 0x07 1 = l.length ∧ flagAt b 0x08 0 = last ∧ flagAt b 0x08 1 = refresh ∧
          flagAt b 0x08 2 = lastOfRegion ∧ clearFrom b 0x08 3 ∧ zeroBetween b 0x09 0x0B ∧ words l
        | .ownReq region generation noWait =>
          b.length = 20 ∧ byteAt b 0 = 3 ∧ byteAt b 0x05 = region ∧ flagAt b 0x06 0 = noWait ∧ clearFrom b 0x06 1 ∧
          byteAt b 0x07 = 0 ∧ fieldAt b 0x08 4 = generation.toNat ∧ zeroBetween b 0x0C 0x0F
        | .ownGrant region generation l =>
          b.length = (if l.isSome then 272 else 16) ∧ byteAt b 0 = 4 ∧ byteAt b 0x05 = region ∧
          zeroBetween b 0x06 0x07 ∧ fieldAt b 0x08 4 = generation.toNat ∧ words (l.getD [])
        | .ownDeny region reason =>
          b.length = 16 ∧ byteAt b 0 = 5 ∧ byteAt b 0x05 = region ∧ byteAt b 0x06 = reason ∧ zeroBetween b 0x07 0x0B
        | .syncDone => b.length = 12 ∧ byteAt b 0 = 6 ∧ zeroBetween b 0x05 0x07)
    | .ack value => b.length = 8 ∧ byteAt b 0 = 7 ∧ byteAt b 0x03 = value
    | .snapshot region sweep generation l =>
      b.length = 272 ∧ byteAt b 0 = 8 ∧ byteAt b 0x03 = region ∧ fieldAt b 0x04 2 = sweep.toNat ∧
      zeroBetween b 0x06 0x07 ∧ fieldAt b 0x08 4 = generation.toNat ∧ words l
    | .idle => b.length = 8 ∧ byteAt b 0 = 9 ∧ byteAt b 0x03 = 0
    | .bye => b.length = 8 ∧ byteAt b 0 = 10 ∧ byteAt b 0x03 = 0)

/-- A frame with one byte damaged, in its content or in its CRC-32, fails the integrity check and is not taken (R104,
R105; the bit order of the CRC-32 is that of log entry 9). -/
def Obligations.OneDamagedByteIsCaught : Prop :=
  (∀ (before after : List Byte) (b d : Byte), b ≠ d →
    crc32 (before ++ b :: after) ≠ crc32 (before ++ d :: after)) ∧
  (∀ (f : Frame) (before after : List Byte) (b d : Byte), f.bytes = before ++ b :: after → b ≠ d →
    checkFrame (before ++ d :: after) = none)

/-! ## The Link Controller (05) -/

/-- A HELLO in SEEKING: the parameter checks in their order, each with its reason for REJECTED, and the entry to JOINING;
in OFF and REJECTED it is discarded (R81, R85, R87, R88). -/
def Obligations.HelloInSeekingChecks : Prop :=
  (∀ (s : State) (epoch : BitVec 16) (h : HelloBody) (rest : List Frame),
    s.Holds { epoch := epoch, body := .hello h } rest → s.link.state = .seeking →
    let rejected := fun reason : RejectReason => { s with
      framer.heldFrames := rest
      framer.hello := none
      link := { s.link with
        state := .rejected, helloTimer := none, silenceTimer := none, peer := none, peerContent := none, fixed := none }
      notif.queue := s.notif.queue ++ [.event (.linkRejected reason)] }
    let sameClasses := ∀ r : Fin 64, h.content.classMap[r] = BitVec.ofNat 2 (s.region r).cls.code
    let samePeriod := h.content.sweepPeriod = BitVec.ofNat 16 s.params.sweepPeriod
    (h.nodeId = s.params.nodeId → exec .helloReceived s = .next (rejected .sameNode)) ∧
    (h.nodeId ≠ s.params.nodeId → ¬ sameClasses → exec .helloReceived s = .next (rejected .classMap)) ∧
    (h.nodeId ≠ s.params.nodeId → sameClasses → ¬ samePeriod →
      exec .helloReceived s = .next (rejected .sweepPeriod)) ∧
    (h.nodeId ≠ s.params.nodeId → sameClasses → samePeriod → exec .helloReceived s = .next { s with
      framer.heldFrames := rest
      framer.hello := some { nodeId := s.params.nodeId, heard := some epoch, joined := false, content := s.presentContent }
      link := { s.link with
        state := .joining, peer := some { nodeId := h.nodeId, epoch := epoch }, peerContent := some h.content,
        fixed := some s.presentContent, helloTimer := some s.params.helloInterval,
        silenceTimer := some (4 * s.params.helloInterval) } })) ∧
  (∀ (s : State) (epoch : BitVec 16) (h : HelloBody) (rest : List Frame),
    s.Holds { epoch := epoch, body := .hello h } rest → (s.link.state = .off ∨ s.link.state = .rejected) →
    exec .helloReceived s = .next { s with framer.heldFrames := rest }) ∧
  (∀ (s : State) (r : Fin 64), s.presentContent.fresh = s.link.fresh ∧
    s.presentContent.sweepPeriod = BitVec.ofNat 16 s.params.sweepPeriod ∧
    s.presentContent.classMap[r] = BitVec.ofNat 2 (s.region r).cls.code ∧
    s.presentContent.generations[r] = (s.region r).generation ∧
    (s.presentContent.claims[r] = true ↔ (s.region r).state = .here ∨ (s.region r).state = .granting))

/-- A HELLO in JOINING: one that names this part's epoch completes the join, with the reconcile of every region, the
confirming HELLO, the new session with its refresh frames and SYNC_DONE, and the sweep, or the fault of a refresh capture;
one that does not; and one of a new peer, recorded or, where its parameters fail, refused into REJECTED (R7, R62, R66, R87,
R89 to R92, R110, R112). What a HELLO that waits names for a new peer is log entry 18's reading. The owner side of a region
is decided by the table of 5.5 (log entry 34), its generation is the larger, and the event of its reconcile is that of the
table of R91. -/
def Obligations.HelloInJoiningCompletes : Prop :=
  (∀ (s : State) (epoch : BitVec 16) (h : HelloBody) (rest : List Frame),
    s.Holds { epoch := epoch, body := .hello h } rest → s.link.state = .joining →
    s.link.peer = some { nodeId := h.nodeId, epoch := epoch } → h.heard ≠ some s.link.epoch →
    exec .helloReceived s = .next { s.passed rest with link.peerContent := some h.content }) ∧
  (∀ (s : State) (epoch : BitVec 16) (h : HelloBody) (rest : List Frame),
    s.Holds { epoch := epoch, body := .hello h } rest → s.link.state = .joining →
    s.link.peer ≠ some { nodeId := h.nodeId, epoch := epoch } →
    let rejected := fun reason : RejectReason => { s with
      framer.heldFrames := rest
      framer.hello := none
      link := { s.link with
        state := .rejected, helloTimer := none, silenceTimer := none, peer := none, peerContent := none, fixed := none }
      notif.queue := s.notif.queue ++ [.event (.linkRejected reason)] }
    let sameClasses := ∀ r : Fin 64, h.content.classMap[r] = BitVec.ofNat 2 (s.region r).cls.code
    let samePeriod := h.content.sweepPeriod = BitVec.ofNat 16 s.params.sweepPeriod
    (h.nodeId = s.params.nodeId → exec .helloReceived s = .next (rejected .sameNode)) ∧
    (h.nodeId ≠ s.params.nodeId → ¬ sameClasses → exec .helloReceived s = .next (rejected .classMap)) ∧
    (h.nodeId ≠ s.params.nodeId → sameClasses → ¬ samePeriod →
      exec .helloReceived s = .next (rejected .sweepPeriod)) ∧
    (h.nodeId ≠ s.params.nodeId → sameClasses → samePeriod → exec .helloReceived s = .next { s.passed rest with
      link.peer := some { nodeId := h.nodeId, epoch := epoch }
      link.peerContent := some h.content
      framer.hello := s.framer.hello.map fun w => HelloBody.naming w epoch })) ∧
  (∀ (s : State) (epoch : BitVec 16) (h : HelloBody) (rest : List Frame) (own : HelloContent),
    s.Holds { epoch := epoch, body := .hello h } rest → s.link.state = .joining →
    s.link.peer = some { nodeId := h.nodeId, epoch := epoch } → h.heard = some s.link.epoch →
    s.link.fixed = some own →
    let owns := fun r => s.ownsAfter own h.content r
    let generation := fun r : Fin 64 => largerGeneration own.generations[r] h.content.generations[r]
    let parts := refreshParts fun r => decide ((s.region r).cls = .acked) && owns r
    ((∀ p ∈ parts.take 95, s.partGood p) → ∃ t, exec .helloReceived s = .next t ∧
      t.link = { s.link with
        state := .syncing, peerContent := some h.content, fresh := false, helloTimer := none,
        silenceTimer := some (4 * s.params.helloInterval), confirmDue := true, syncSent := false, syncReceived := false,
        refresh := parts[95]?.map fun p => { region := p.1, step := p.2, waiting := true } } ∧
      t.framer = { s.framer with
        heldFrames := rest
        hello := some { nodeId := s.params.nodeId, heard := some epoch, joined := true, content := own }
        turnCount := 0
        quietTimer := some s.params.helloInterval
        idleDue := false } ∧
      (∀ r, t.region r = { s.region r with
        state := if owns r then .here else .there, held := false, pending := none, claimEntry := none,
        releaseEntry := none, stale := !owns r, generation := generation r,
        lastSweep := if generation r = (s.region r).generation then (s.region r).lastSweep else none,
        age := if generation r = (s.region r).generation then (s.region r).age else 0 }) ∧
      t.notif = { s.notif with
        queue := s.notif.queue ++ (List.finRange 64).filterMap fun r =>
          (reconcileEvent r (s.region r).cls (s.region r).state (owns r)).map Submission.event } ∧
      t.stream = ({ s with stream := State.reset.stream }.withFrames ((parts.take 95).map s.refreshUpdate ++
        (if parts.length ≤ 95 then [SeqContent.syncDone] else []))).stream ∧
      t.sweep = { State.reset.sweep with
        timer := if s.params.sweepPeriod = 0 then none else some s.params.sweepPeriod, number := s.sweep.number } ∧
      t.dev = s.dev ∧ t.mirror = s.mirror ∧ t.rings = s.rings ∧ t.cmd = s.cmd ∧ t.watch = s.watch ∧
      t.emitted = s.emitted) ∧
    (∀ n p, n < 95 → parts[n]? = some p → ¬ s.partGood p → (∀ q ∈ parts.take n, s.partGood q) →
      ∃ t, exec .helloReceived s = .next t ∧ t.dev.state = .faulted ∧ t.dev.faultCode = .mirrorParity ∧
        t.emitted = .msi 2 :: s.emitted ∧ t.link.state = .syncing ∧ t.framer.bye = some s.link.epoch ∧
        t.stream.list = ({ s with stream := State.reset.stream }.withFrames
          ((parts.take n).map s.refreshUpdate)).stream.list ∧
        (∀ r, (t.region r).state = (if owns r then .here else .there) ∧ (t.region r).generation = generation r) ∧
        t.mirror = s.mirror ∧ t.cmd = s.cmd)) ∧
  (∀ (s : State) (own peer : HelloContent) (p : Peer) (r : Fin 64), s.link.peer = some p →
    let owns := s.ownsAfter own peer r
    let roleA := s.params.nodeId.toNat < p.nodeId.toNat
    (own.fresh = true → peer.fresh = false → (owns = true ↔ peer.claims[r] = false)) ∧
    (own.fresh = false → peer.fresh = true → (owns = true ↔ own.claims[r] = true)) ∧
    (own.fresh = peer.fresh → own.claims[r] = true → peer.claims[r] = false → owns = true) ∧
    (own.fresh = peer.fresh → own.claims[r] = false → peer.claims[r] = true → owns = false) ∧
    (own.fresh = true → peer.fresh = true → own.claims[r] = peer.claims[r] → (owns = true ↔ roleA)) ∧
    (own.fresh = false → peer.fresh = false → own.claims[r] = true → peer.claims[r] = true →
      own.generations[r] ≠ peer.generations[r] →
        (owns = true ↔ peer.generations[r].toNat < own.generations[r].toNat)) ∧
    (own.fresh = false → peer.fresh = false → own.claims[r] = true → peer.claims[r] = true →
      own.generations[r] = peer.generations[r] → (owns = true ↔ roleA)) ∧
    (own.fresh = false → peer.fresh = false → own.claims[r] = false → peer.claims[r] = false →
      (owns = true ↔ roleA))) ∧
  (∀ a b : BitVec 32, (largerGeneration a b).toNat = max a.toNat b.toNat) ∧
  (∀ (r : Fin 64) (cls : RegionClass) (before : OwnState), cls ≠ .off →
    reconcileEvent r .off before true = none ∧ reconcileEvent r .off before false = none ∧
    reconcileEvent r cls .granting true = some (.ownershipKept r) ∧
    reconcileEvent r cls .here false = some (.ownershipLost r) ∧
    reconcileEvent r cls .there true = some (.ownershipArrived r false) ∧
    reconcileEvent r cls .claiming true = some (.ownershipArrived r false) ∧
    reconcileEvent r cls .here true = none ∧ reconcileEvent r cls .there false = none ∧
    reconcileEvent r cls .claiming false = none ∧ reconcileEvent r cls .granting false = none)

/-- Two parts that complete a join with each other's contents come to one owner for each region, HERE at one and THERE
at the other, and to the same generation (R89 to R91 and the table of 5.5; log entry 34). -/
def Obligations.ReconcileAgreesAtBothParts : Prop :=
  ∀ (s1 s2 : State) (h1 h2 : HelloBody) (rest1 rest2 : List Frame),
    s1.Holds { epoch := s2.link.epoch, body := .hello h2 } rest1 →
    s2.Holds { epoch := s1.link.epoch, body := .hello h1 } rest2 →
    s1.link.state = .joining → s2.link.state = .joining →
    s1.link.peer = some { nodeId := s2.params.nodeId, epoch := s2.link.epoch } →
    s2.link.peer = some { nodeId := s1.params.nodeId, epoch := s1.link.epoch } →
    h1.nodeId = s1.params.nodeId → h2.nodeId = s2.params.nodeId → s1.params.nodeId ≠ s2.params.nodeId →
    h2.heard = some s1.link.epoch → h1.heard = some s2.link.epoch →
    h1.content = s1.fixedContent → h2.content = s2.fixedContent →
    ∃ t1 t2, exec .helloReceived s1 = .next t1 ∧ exec .helloReceived s2 = .next t2 ∧
      t1.link.state = .syncing ∧ t2.link.state = .syncing ∧
      ∀ r, ((t1.region r).state = .here ∧ (t2.region r).state = .there ∨
          (t1.region r).state = .there ∧ (t2.region r).state = .here) ∧
        (t1.region r).generation = (t2.region r).generation

/-- A HELLO in SYNCING or UP: one of the recorded peer that names this part's epoch keeps the session, and is answered
by a confirming HELLO if the peer is still JOINING; any other takes a link loss with reason PEER_RESTART and is then
taken as in SEEKING (R95). -/
def Obligations.HelloInSessionKeepsOrRestarts : Prop :=
  ∀ (s : State) (epoch : BitVec 16) (h : HelloBody) (rest : List Frame),
    s.Holds { epoch := epoch, body := .hello h } rest → s.streaming = true →
    let known := s.link.peer = some { nodeId := h.nodeId, epoch := epoch } ∧ h.heard = some s.link.epoch
    (known → (h.joined = true ∨ s.link.confirmDue = true) → exec .helloReceived s = .next (s.passed rest)) ∧
    (known → h.joined = false → s.link.confirmDue = false → exec .helloReceived s = .next { s.passed rest with
      framer.hello := some { nodeId := s.params.nodeId, heard := some epoch, joined := true, content := s.fixedContent }
      link.confirmDue := true }) ∧
    (¬ known → exec .helloReceived s = exec .helloReceived
      (let t := State.linkLoss { s with framer.heldFrames := rest } .peerRestart
       { t with framer.heldFrames := { epoch := epoch, body := .hello h } :: rest }))

/-- The epoch filter on every frame but HELLO, and what passes it in JOINING: another epoch is discarded and counted, the
recorded peer's frame restarts the silence timer, its BYE takes a link loss; a sequenced frame that is not the expected
one is discarded, ahead it is counted OUT_OF_ORDER, a repeated one is counted DUPLICATES and makes an acknowledgement
due (R57, R81, R94, R96, R97). -/
def Obligations.OnlyExpectedPeerFramesPass : Prop :=
  (∀ (s : State) (f : Frame) (rest : List Frame), s.Holds f rest → f.body.isHello = false →
    (s.link.state = .off ∨ s.link.state = .seeking ∨ s.link.state = .rejected) →
    exec f.body.command s = .next { s with framer.heldFrames := rest }) ∧
  (∀ (s : State) (f : Frame) (rest : List Frame), s.Holds f rest → f.body.isHello = false →
    (s.link.state = .joining ∨ s.link.state = .syncing ∨ s.link.state = .up) → s.heardEpoch ≠ some f.epoch →
    exec f.body.command s = .next (State.counted { s with framer.heldFrames := rest } .epochMismatch)) ∧
  (∀ (s : State) (f : Frame) (rest : List Frame), s.Holds f rest → f.body.isHello = false → f.body ≠ .bye →
    s.link.state = .joining → s.heardEpoch = some f.epoch → exec f.body.command s = .next (s.passed rest)) ∧
  (∀ (s : State) (epoch : BitVec 16) (rest : List Frame), s.Holds { epoch := epoch, body := .idle } rest →
    s.streaming = true → s.heardEpoch = some epoch → exec .idleReceived s = .next (s.passed rest)) ∧
  (∀ (s : State) (epoch : BitVec 16) (rest : List Frame), s.Holds { epoch := epoch, body := .bye } rest →
    (s.link.state = .joining ∨ s.link.state = .syncing ∨ s.link.state = .up) → s.heardEpoch = some epoch →
    exec .byeReceived s = .next ((s.passed rest).linkLoss .peerLeft)) ∧
  (∀ (s u : State) (seq acked : BitVec 8) (content : SeqContent), s.Receives seq acked content u →
    (1 ≤ (seq - u.stream.expected).toNat → (seq - u.stream.expected).toNat ≤ 127 →
      exec content.command s = .next (u.counted .outOfOrder)) ∧
    (128 ≤ (seq - u.stream.expected).toNat →
      exec content.command s = .next { u.counted .duplicates with stream.ackDue := true }))

/-- The hello, silence and quiet timers and the end of a LINK_ACT pulse, each at its expiry and each stopped (R85, R97,
R111, R112). -/
def Obligations.LinkTimersExpire : Prop :=
  (∀ (s : State) (ms : Nat), s.dev.perst = false → s.link.helloTimer = some ms → s.link.state = .seeking →
    exec .helloTimerExpiry s = .next { s with
      framer.hello := some { nodeId := s.params.nodeId, heard := none, joined := false, content := s.presentContent }
      link.helloTimer := some s.params.helloInterval }) ∧
  (∀ (s : State) (ms : Nat), s.dev.perst = false → s.link.helloTimer = some ms → s.link.state = .joining →
    exec .helloTimerExpiry s = .next { s with
      framer.hello := some
        { nodeId := s.params.nodeId, heard := s.heardEpoch, joined := false, content := s.fixedContent }
      link.helloTimer := some s.params.helloInterval }) ∧
  (∀ (s : State) (ms : Nat), s.dev.perst = false → s.link.silenceTimer = some ms →
    (s.link.state = .joining ∨ s.link.state = .syncing ∨ s.link.state = .up) →
    exec .silenceTimerExpiry s = .next (s.linkLoss .silence)) ∧
  (∀ (s : State) (ms : Nat), s.dev.perst = false → s.framer.quietTimer = some ms →
    exec .quietTimerExpiry s = .next { s with framer.quietTimer := none, framer.idleDue := true }) ∧
  (∀ s : State, s.dev.perst = false → exec .linkActTimeout s = .next { s with pinLinkAct := false }) ∧
  (∀ s : State, s.link.helloTimer = none → exec .helloTimerExpiry s = .next s) ∧
  (∀ s : State, s.link.silenceTimer = none → exec .silenceTimerExpiry s = .next s) ∧
  (∀ s : State, s.framer.quietTimer = none → exec .quietTimerExpiry s = .next s)

/-! ## The ordered stream and received frames (03, 02, 04) -/

/-- An UPDATE in order: the checks of R59 and R60 with their protocol errors, and the apply, the last refresh frame of a
region clearing its stale flag; and the check of a hand-over frame's region number (R58 to R61). -/
def Obligations.UpdateReceivedIsApplied : Prop :=
  (∀ (s u : State) (seq acked : BitVec 8) (region offset : Byte) (words : List Word) (last refresh lastOfRegion : Bool),
    s.Receives seq acked (.update region offset words last refresh lastOfRegion) u → seq = u.stream.expected →
    64 ≤ region.toNat → exec .updateReceived s = .next (u.inOrder.withProtocolError .regionRange (some region))) ∧
  (∀ (s u : State) (seq acked region reason : Byte) (generation : BitVec 32) (noWait : Bool)
    (grant : Option (List Word)) (content : SeqContent),
    content ∈ [.ownReq region generation noWait, .ownGrant region generation grant, .ownDeny region reason] →
    s.Receives seq acked content u → seq = u.stream.expected → 64 ≤ region.toNat →
    exec content.command s = .next (u.inOrder.withProtocolError .regionRange (some region))) ∧
  (∀ (s u : State) (seq acked : BitVec 8) (r : Fin 64) (offset : Byte) (words : List Word)
    (last refresh lastOfRegion : Bool),
    s.Receives seq acked (.update (BitVec.ofNat 8 r.val) offset words last refresh lastOfRegion) u →
    seq = u.stream.expected →
    let applied := u.inOrder.apply r offset.toNat words .peer
    exec .updateReceived s = .next
      (if (u.region r).cls = .off then u.inOrder.withProtocolError .regionOff (some (BitVec.ofNat 8 r.val))
      else if 64 < offset.toNat + words.length then
        u.inOrder.withProtocolError .updateRange (some (BitVec.ofNat 8 r.val))
      else if (u.region r).cls = .cyclic then u.inOrder.withProtocolError .updateClass (some (BitVec.ofNat 8 r.val))
      else if (u.region r).state = .here ∨ (u.region r).state = .granting then
        u.inOrder.withProtocolError .updateState (some (BitVec.ofNat 8 r.val))
      else if refresh = true ∧ lastOfRegion = true then applied.withRegion r { u.region r with stale := false }
      else applied))

/-- An OWN_REQ in order: the lines of R33 for a region in HERE, with the grant, the denials and the deferral, and R36 for
the other states; the checks of R59 stand before them (R20 to R22, R31 to R33, R36, R58, R59). That a denial in CLAIMING
asks for no hand-over frame outstanding, an OWN_DENY among them, is log entry 32's reading of R22. -/
def Obligations.RequestReceivedIsAnswered : Prop :=
  ∀ (s u : State) (seq acked : BitVec 8) (r : Fin 64) (generation : BitVec 32) (noWait : Bool),
    s.Receives seq acked (.ownReq (BitVec.ofNat 8 r.val) generation noWait) u → seq = u.stream.expected →
    let v := u.inOrder
    let e := u.region r
    let byte : Byte := BitVec.ofNat 8 r.val
    let outstanding := ∃ t ∈ u.stream.list, t.content.handsOver r = true
    let grants := e.generation = generation ∧ generation ≠ 4294967295#32 ∧ e.held = false ∧ e.stagingCount = 0
    let content := if e.cls = .cyclic then some (u.mirror.values (64 * r.val) 64) else none
    (e.cls = .off → exec .ownReqReceived s = .next (v.withProtocolError .regionOff (some byte))) ∧
    (e.cls ≠ .off → e.state = .granting → exec .ownReqReceived s = .next v) ∧
    (e.cls ≠ .off → e.state = .there → outstanding →
      exec .ownReqReceived s = .next (v.withProtocolError .reqRepeated (some byte))) ∧
    (e.cls ≠ .off → e.state = .there → ¬ outstanding → exec .ownReqReceived s = .next (v.withControl (.ownDeny byte 1))) ∧
    (e.cls ≠ .off → e.state = .claiming → outstanding →
      exec .ownReqReceived s = .next (v.withProtocolError .reqInClaiming (some byte))) ∧
    (e.cls ≠ .off → e.state = .claiming → ¬ outstanding → exec .ownReqReceived s = .next
      ((v.withProtocolError .reqInClaiming (some byte)).withControl (.ownDeny byte 1))) ∧
    (e.cls ≠ .off → e.state = .here → (outstanding ∨ e.pending.isSome = true) →
      exec .ownReqReceived s = .next (v.withProtocolError .reqRepeated (some byte))) ∧
    (e.cls ≠ .off → e.state = .here → ¬ outstanding → e.pending = none →
      (generation ≠ e.generation → exec .ownReqReceived s = .next
        ((v.withProtocolError .reqGeneration (some byte)).withControl (.ownDeny byte 1))) ∧
      (generation = e.generation → generation = 4294967295#32 →
        exec .ownReqReceived s = .next (v.withControl (.ownDeny byte 4))) ∧
      (grants → (e.cls = .cyclic → u.mirror.rangeGood (64 * r.val) 64 = true) →
        exec .ownReqReceived s = .next (v.granted r content)) ∧
      (grants → e.cls = .cyclic → u.mirror.rangeGood (64 * r.val) 64 = false →
        ∃ t, exec .ownReqReceived s = .next t ∧ v.HasFaulted t .mirrorParity) ∧
      (generation = e.generation → generation ≠ 4294967295#32 → (e.held = true ∨ e.stagingCount ≠ 0) →
        exec .ownReqReceived s = .next
          (if noWait = true ∨ u.params.deferralLimit = 0 then v.withControl (.ownDeny byte (if e.held then 2 else 3))
          else v.withRegion r { e with pending := some { noWait := noWait, timer := some u.params.deferralLimit } })))

/-- An OWN_GRANT in order: the checks of R37 with their protocol errors; an accepted one applies a CYCLIC region's words,
makes the region HERE at the next generation and answers the CLAIM or reports the arrival (R37 to R39, R59, R77). -/
def Obligations.GrantReceivedMakesOwner : Prop :=
  ∀ (s u : State) (seq acked : BitVec 8) (r : Fin 64) (generation : BitVec 32) (content : Option (List Word)),
    s.Receives seq acked (.ownGrant (BitVec.ofNat 8 r.val) generation content) u → seq = u.stream.expected →
    let v := u.inOrder
    let e := u.region r
    let byte : Byte := BitVec.ofNat 8 r.val
    let wrong := generation ≠ e.generation + 1 ∨ e.generation = 4294967295#32
    let unsuited := e.cls = .cyclic ∧ content = none ∨ e.cls = .acked ∧ content ≠ none
    let applied := match content with
      | some words => v.apply r 0 words .peer
      | none => v
    let new := applied.withRegion r { e with
      state := .here, generation := generation, stale := false, claimEntry := none, lastSweep := none, age := 0 }
    (e.cls = .off → exec .ownGrantReceived s = .next (v.withProtocolError .regionOff (some byte))) ∧
    (e.cls ≠ .off →
      (e.state = .here ∨ e.state = .granting →
        exec .ownGrantReceived s = .next (v.withProtocolError .grantUnexpected (some byte))) ∧
      (e.state = .there ∨ e.state = .claiming → wrong →
        exec .ownGrantReceived s = .next (v.withProtocolError .grantGeneration (some byte))) ∧
      (e.state = .there ∨ e.state = .claiming → ¬ wrong → unsuited →
        exec .ownGrantReceived s = .next (v.withProtocolError .grantContent (some byte))) ∧
      (e.state = .there → ¬ wrong → ¬ unsuited →
        exec .ownGrantReceived s = .next (new.withEvent (.ownershipArrived r true))) ∧
      (∀ i c, e.state = .claiming → ¬ wrong → ¬ unsuited → e.claimEntry = some i → u.cmd.oct[i] = some c →
        exec .ownGrantReceived s = .next (new.withCompletion i c .ok (new.summary r))))

/-- An OWN_DENY in order for a region in CLAIMING makes it THERE and completes its CLAIM DENIED with the reason and the
region summary; in HERE, THERE and GRANTING it is ignored (R40); R59 discards one for a region of class OFF. -/
def Obligations.DenyReceivedEndsClaim : Prop :=
  ∀ (s u : State) (seq acked : BitVec 8) (r : Fin 64) (reason : Byte),
    s.Receives seq acked (.ownDeny (BitVec.ofNat 8 r.val) reason) u → seq = u.stream.expected →
    let there := u.inOrder.withRegion r { u.region r with state := .there, claimEntry := none }
    ((u.region r).cls = .off → exec .ownDenyReceived s = .next
      (u.inOrder.withProtocolError .regionOff (some (BitVec.ofNat 8 r.val)))) ∧
    (∀ i c, (u.region r).cls ≠ .off → (u.region r).state = .claiming → (u.region r).claimEntry = some i →
      u.cmd.oct[i] = some c → exec .ownDenyReceived s = .next
        (there.withCompletion i c .denied (there.summary r (BitVec.ofNat 32 reason.toNat)))) ∧
    ((u.region r).cls ≠ .off → (u.region r).state ≠ .claiming → exec .ownDenyReceived s = .next u.inOrder)

/-- A SYNC_DONE in order sets the sync-received flag, and with the other flag set moves the link to UP with its event; a
repeated one is the protocol error SYNC_REPEATED (R93). -/
def Obligations.SyncDoneReceivedCompletes : Prop :=
  ∀ (s u : State) (seq acked : BitVec 8), s.Receives seq acked .syncDone u → seq = u.stream.expected →
    (u.link.syncReceived = false → u.link.state = .syncing → exec .syncDoneReceived s = .next
      (if u.link.syncSent then State.withEvent { u.inOrder with link.syncReceived := true, link.state := .up } .linkUp
      else { u.inOrder with link.syncReceived := true })) ∧
    (u.link.syncReceived = true → exec .syncDoneReceived s = .next (u.inOrder.withProtocolError .syncRepeated none))

/-- An acknowledgement value: ahead of what was sent it is a protocol error, behind it nothing, and otherwise the frames
it covers leave the list with their effects on WRITE, FENCE, GRANTING regions and the sync-sent flag (R26, R52 to R54, R93,
R132), and with no other: no other completion joins, no other OCT entry or region changes, and link and notifications stand
unless a SYNC_DONE left. Where an UPDATE frame left, every waiting requester then presents: the WRITE at the head as it
does when it reaches the head, the refresh cursor as far as there is room, ending with SYNC_DONE or with the fault of a
capture (R7, R46, R92). That the FENCE commands complete before the requesters present is the model's reading (log entry
15); that either requester may be first (log entry 12) and that the cursor runs on before a WRITE after it is tested (log
entry 41) are its choices. -/
def Obligations.AcknowledgementIsTaken : Prop :=
  (∀ (s : State) (epoch : BitVec 16) (n : BitVec 8) (rest : List Frame), s.Holds { epoch := epoch, body := .ack n } rest →
    s.streaming = true → s.heardEpoch = some epoch → exec .ackReceived s = .next ((s.passed rest).processAck n)) ∧
  (∀ (s : State) (n : BitVec 8), s.sentCount ≤ (n - s.oldestSeq).toNat → (n - s.oldestSeq).toNat ≤ 127 →
    s.processAck n = s.withProtocolError .ackAhead none) ∧
  (∀ (s : State) (n : BitVec 8), s.sentCount ≤ (n - s.oldestSeq).toNat → 128 ≤ (n - s.oldestSeq).toNat →
    s.processAck n = s) ∧
  (∀ (s : State) (n : BitVec 8), (n - s.oldestSeq).toNat < s.sentCount → s.waitingRequesters = [] →
    let count := (n - s.oldestSeq).toNat + 1
    let t := s.processAck n
    t.stream = { s.stream with
      list := s.stream.list.drop count
      retryCount := 0
      sessionAcked := true
      timer := if (s.stream.list.drop count).any fun f => f.sent then some s.params.ackTimeout else none } ∧
    let removed := s.stream.list.take count
    let syncLeft := removed.any fun f => f.content == .syncDone
    let goesUp := syncLeft && decide (s.link.state = .syncing) && s.link.syncReceived
    let handedOver : Fin 64 → Bool := fun r => decide ((s.region r).state = .granting) &&
      removed.any fun f => match f.content with
        | .ownGrant b _ _ => b == BitVec.ofNat 8 r.val
        | _ => false
    let writes := s.writesOf removed .ok
    let releases := (List.finRange 64).filterMap fun r => if handedOver r then
      (s.region r).releaseEntry.bind fun i => s.completionOf i .ok (t.summary r) else none
    let fences := (List.finRange 32).filterMap fun i => (s.entry i).bind fun e => e.mark.bind fun m =>
      if e.command = .fence ∧ e.phase = .awaitingEvent ∧ (writes ++ releases).all (fun c => c.entry ≠ some i) ∧
          removed.any (fun f => f.seq = m) then
        s.completionOf i .ok { w0 := BitVec.ofNat 32 (m.toNat + 256), w1 := 0, w2 := 0 }
      else none
    t.mirror = s.mirror ∧ t.dev = s.dev ∧ t.framer = s.framer ∧ t.sweep = s.sweep ∧ t.watch = s.watch ∧
    t.hostMem = s.hostMem ∧ t.emitted = s.emitted ∧ t.pinLinkAct = s.pinLinkAct ∧
    (∃ first last, t.rings = { s.rings with posting := s.rings.posting ++ first ++ last } ∧
      writes.Sublist first ∧ first.Perm (writes ++ releases) ∧ last.Perm fences) ∧
    t.cmd = { s.cmd with oct := t.cmd.oct } ∧
    (∀ i, t.entry i = (s.entry i).map fun e =>
      if (writes ++ releases ++ fences).any fun c => c.entry = some i then e.finished else e) ∧
    (∀ r, handedOver r = false → t.region r = s.region r) ∧
    t.link = { s.link with
      syncSent := s.link.syncSent || syncLeft, state := if goesUp then .up else s.link.state } ∧
    t.notif = { s.notif with queue := s.notif.queue ++ if goesUp then [.event .linkUp] else [] } ∧
    (∀ f ∈ s.stream.list.take count, ∀ i e region offset words refresh lastOfRegion,
      f.content = .update region offset words true refresh lastOfRegion → f.owner = some i → s.entry i = some e →
      { ring := e.ring, tag := e.tag, status := .ok, info := e.info, entry := some i } ∈ t.rings.posting) ∧
    (∀ r g c, (∃ f ∈ s.stream.list.take count, f.content = .ownGrant (BitVec.ofNat 8 r.val) g c) →
      (s.region r).state = .granting → (s.region r).generation ≠ 4294967295#32 →
      t.region r = { s.region r with
        state := .there, generation := (s.region r).generation + 1, releaseEntry := none, lastSweep := none, age := 0 } ∧
      ∀ i e, (s.region r).releaseEntry = some i → s.entry i = some e →
        { ring := e.ring, tag := e.tag, status := .ok, info := t.summary r, entry := some i } ∈ t.rings.posting) ∧
    ((∃ f ∈ s.stream.list.take count, f.content = .syncDone) → t.link.syncSent = true ∧
      (s.link.state = .syncing → s.link.syncReceived = true →
        t.link.state = .up ∧ .event .linkUp ∈ t.notif.queue)) ∧
    (∀ i e m, s.entry i = some e → e.command = .fence → e.phase = .awaitingEvent → e.mark = some m →
      (∀ f ∈ s.stream.list, f.owner ≠ some i) → (∀ r, (s.region r).releaseEntry ≠ some i) →
      (∃ f ∈ s.stream.list.take count, f.seq = m) →
      { ring := e.ring, tag := e.tag, status := .ok,
        info := { w0 := BitVec.ofNat 32 (m.toNat + 256), w1 := 0, w2 := 0 }, entry := some i } ∈ t.rings.posting)) ∧
  (∀ (s : State) (n : BitVec 8), (n - s.oldestSeq).toNat < s.sentCount →
    let count := (n - s.oldestSeq).toNat + 1
    let base := { State.processAck { s with stream.waitWrite := false, link.refresh := none } n with
      stream.waitWrite := s.stream.waitWrite, link.refresh := s.link.refresh }
    ((∃ f ∈ s.stream.list.take count, f.content.isUpdate = true) → s.processAck n = base.presentWaiting) ∧
    ((∀ f ∈ s.stream.list.take count, f.content.isUpdate = false) → s.processAck n = base)) ∧
  (∀ s : State, s.dev.state ≠ .faulted →
    (s.waitingRequesters = [] → s.presentWaiting = s) ∧
    (∀ q, s.waitingRequesters = [q] → s.presentWaiting = s.presentRequester q) ∧
    (s.waitingRequesters = [.write, .refresh] → ∃ first second,
      (first = .write ∧ second = .refresh ∨ first = .refresh ∧ second = .write) ∧
      let v := State.presentRequester { s with choices := s.choices + 1 } first
      s.presentWaiting = if v.dev.state = .faulted then v else v.presentRequester second) ∧
    (.write ∈ s.waitingRequesters ↔ s.stream.waitWrite = true) ∧
    (.refresh ∈ s.waitingRequesters ↔ ∃ c, s.link.refresh = some c ∧ c.waiting = true)) ∧
  (∀ (s : State) (i : Fin 32) (rest : List (Fin 32)) (e : OctEntry) (r : Fin 64) (offset count : Nat)
    (source : WriteSource) (waitRemote : Bool), s.Runs → s.cmd.queue = i :: rest → s.cmd.oct[i] = some e →
    e.command = .write r offset count source waitRemote → e.phase = .executingWait → s.stagingBusy e = false →
    s.stagingFailed e = false → (s.region r).cls = .acked → (s.region r).state = .here → s.streaming = true →
    .next (s.presentRequester .write) =
      exec .write { s with cmd.oct := s.cmd.oct.set i (some { e with phase := .queued }) }) ∧
  (∀ (s : State) (c : RefreshCursor), s.Runs → s.streaming = true → s.link.refresh = some c → c.step ≤ 3 →
    let parts := s.refreshRest c
    let room := 95 - s.updateCount
    let t := s.presentRequester .refresh
    ((∀ p ∈ parts.take room, s.partGood p) →
      t = { s.withFrames ((parts.take room).map s.refreshUpdate ++
          (if parts.length ≤ room then [SeqContent.syncDone] else [])) with
        link.refresh := parts[room]?.map fun p => { region := p.1, step := p.2, waiting := true } }) ∧
    (∀ n p, n < room → parts[n]? = some p → ¬ s.partGood p → (∀ q ∈ parts.take n, s.partGood q) →
      t.stream.list = (s.withFrames ((parts.take n).map s.refreshUpdate)).stream.list ∧ t.dev.state = .faulted ∧
        t.dev.faultCode = .mirrorParity ∧ t.emitted = .msi 2 :: s.emitted ∧ t.mirror = s.mirror ∧ t.cmd = s.cmd))

/-- A SNAPSHOT is applied only to a CYCLIC region in THERE or CLAIMING, at the region's generation and with a newer sweep
number; otherwise it is discarded and counted (R73, R74). -/
def Obligations.SnapshotReceivedIfNewer : Prop :=
  (∀ (s : State) (epoch : BitVec 16) (region : Byte) (sweep : BitVec 16) (generation : BitVec 32) (words : List Word)
    (rest : List Frame), s.Holds { epoch := epoch, body := .snapshot region sweep generation words } rest →
    s.streaming = true → s.heardEpoch = some epoch → 64 ≤ region.toNat →
    exec .snapshotReceived s = .next ((s.passed rest).counted .snapshotsStale)) ∧
  (∀ (s : State) (epoch : BitVec 16) (r : Fin 64) (sweep : BitVec 16) (generation : BitVec 32) (words : List Word)
    (rest : List Frame),
    s.Holds { epoch := epoch, body := .snapshot (BitVec.ofNat 8 r.val) sweep generation words } rest →
    s.streaming = true → s.heardEpoch = some epoch →
    let accepted := (s.region r).cls = .cyclic ∧ ((s.region r).state = .there ∨ (s.region r).state = .claiming) ∧
      generation = (s.region r).generation ∧
      ∀ last, (s.region r).lastSweep = some last → 1 ≤ (sweep - last).toNat ∧ (sweep - last).toNat ≤ 32767
    let applied := ((s.passed rest).apply r 0 words .peer).withRegion r
      { s.region r with lastSweep := some sweep, age := 0, stale := false }
    (accepted → exec .snapshotReceived s =
      .next (if (s.region r).stale then applied.withEvent (.cyclicFresh r) else applied)) ∧
    (¬ accepted → exec .snapshotReceived s = .next ((s.passed rest).counted .snapshotsStale)))

/-- The retransmission timer expires: a link loss at the retry limit, otherwise every sent frame is marked for resending
and the timer restarts; an expiry in SYNCING before the first acknowledgement does not count (R54 to R56). -/
def Obligations.RetransmissionMarksOrLoses : Prop :=
  (∀ (s : State) (units : Nat), s.dev.perst = false → s.streaming = true → s.stream.timer = some units →
    let counts := s.link.state = .up ∨ s.stream.sessionAcked = true
    (counts → s.stream.retryCount = s.params.retryLimit →
      exec .retransmissionTimerExpiry s = .next ((s.counted .retransmitRounds).linkLoss .retry)) ∧
    (¬ counts ∨ s.stream.retryCount ≠ s.params.retryLimit →
      exec .retransmissionTimerExpiry s = .next { s.counted .retransmitRounds with
        stream.retryCount := if s.link.state = .up ∨ s.stream.sessionAcked = true then s.stream.retryCount + 1
          else s.stream.retryCount
        stream.list := s.stream.list.map fun f => { f with resend := f.resend || f.sent }
        stream.timer := some s.params.ackTimeout })) ∧
  (∀ s : State, s.stream.timer = none → exec .retransmissionTimerExpiry s = .next s)

/-- The deferral timer of a pending request expires: the request is denied with reason HELD or BUSY, becomes absent, and
the event names the region; an expiry is taken only while the request is present (R35). -/
def Obligations.DeferralExpiryDenies : Prop :=
  (∀ (s : State) (r : Fin 64) (noWait : Bool) (ms : Nat), s.dev.perst = false →
    (s.region r).pending = some { noWait := noWait, timer := some ms } →
    exec (.deferralTimerExpiry r) s = .next
      (((s.withControl (.ownDeny (BitVec.ofNat 8 r.val) (if (s.region r).held then 2 else 3))).withRegion r
        { s.region r with pending := none }).withEvent (.deferralExpired r))) ∧
  (∀ (s : State) (r : Fin 64), (s.region r).pending = none → exec (.deferralTimerExpiry r) s = .next s)

/-- The sweep timer expires: a sweep starts or an overrun is taken and counted, the receive ages of CYCLIC regions in
THERE rise to 255 at most and can make a region stale, and the events follow (R66 to R69, R71, R75, R76). That the two
groups of events may come in either order is the model's choice (log entry 13). -/
def Obligations.SweepTimerExpires : Prop :=
  (∀ (s : State) (ms : Nat), s.dev.perst = false → s.sweep.timer = some ms →
    let ages := fun e : RegionEntry => e.cls = .cyclic ∧ e.state = .there ∧ e.age < 255
    let growsStale := fun e : RegionEntry =>
      ages e ∧ s.params.staleLimit ≠ 0 ∧ e.age + 1 = s.params.staleLimit ∧ e.stale = false
    let overruns : List Submission := if s.sweep.cursor.isSome = true ∧ s.sweep.overrun = false then
      [.event (.sweepOverrun (s.counted .sweepOverruns).dev.counters[9])] else []
    let stales := (List.finRange 64).filterMap fun r =>
      if growsStale (s.region r) then some (Submission.event (.cyclicStale r)) else none
    ∃ t, exec .sweepTimerExpiry s = .next t ∧
      (t.notif.queue = s.notif.queue ++ overruns ++ stales ∨ t.notif.queue = s.notif.queue ++ stales ++ overruns) ∧
      (∀ r, (¬ ages (s.region r) → t.region r = s.region r) ∧
        (ages (s.region r) → t.region r = { s.region r with
          age := (s.region r).age + 1
          lastSweep := if (s.region r).age + 1 = 255 then none else (s.region r).lastSweep
          stale := (s.region r).stale ||
            decide (s.params.staleLimit ≠ 0 ∧ (s.region r).age + 1 = s.params.staleLimit) })) ∧
      (s.sweep.cursor.isSome = true → t.dev = (s.counted .sweepOverruns).dev ∧ t.framer = s.framer ∧
        t.sweep = { s.sweep with timer := some s.params.sweepPeriod, pending := true, overrun := true }) ∧
      (s.sweep.cursor = none → t.dev = s.dev ∧
        t.framer = { s.framer with
          turnCount := if (s.sweepTarget 0).isSome then s.framer.turnCount else 0 } ∧
        t.sweep = { s.sweep with
          timer := some s.params.sweepPeriod, number := s.sweep.number + 1, cursor := s.sweepTarget 0,
          offered := s.sweepTarget 0, overrun := if (s.sweepTarget 0).isSome then s.sweep.overrun else false }) ∧
      t.stream = s.stream ∧ t.link = s.link ∧ t.mirror = s.mirror ∧ t.cmd = s.cmd ∧ t.rings = s.rings) ∧
  (∀ s : State, s.sweep.timer = none → exec .sweepTimerExpiry s = .next s)

/-! ## Watches and notifications (09) -/

/-- The oldest apply report is evaluated whole: each armed entry that examines it and has a firing word submits one WATCH
record with the lowest firing word, in slot order, and a one-shot entry is disarmed (R161, R162). That evaluation runs
in RUNNING and STOPPING is the model's choice (log entry 17). -/
def Obligations.WatchEvaluationFires : Prop :=
  (∀ (s : State) (p : ApplyReport) (rest : List ApplyReport), s.Works → s.watch.reports = p :: rest →
    let fires := fun j : Fin 16 =>
      if s.watch.table[j].armed = true ∧ s.watch.table[j].spec.region = p.region ∧
          (p.source = .peer ∨ s.watch.table[j].spec.both = true) then p.firing s.watch.table[j].spec else []
    ∃ t, exec .watchEvaluation s = .next t ∧ t = { s with watch := t.watch, notif := t.notif } ∧
      t.watch.reports = rest ∧
      (∀ j : Fin 16, t.watch.table[j] = if fires j ≠ [] ∧ s.watch.table[j].spec.oneShot = true then
        { s.watch.table[j] with armed := false } else s.watch.table[j]) ∧
      t.notif = { s.notif with
        queue := s.notif.queue ++ (List.finRange 16).filterMap fun j =>
          (fires j).head?.map fun w => Submission.watch j p.region w.1 w.2 (fires j).length p.source }) ∧
  (∀ (p : ApplyReport) (w : WatchSpec), p.before.length = p.after.length →
    (∀ offset value, (offset, value) ∈ p.firing w ↔ w.first ≤ offset ∧ offset ≤ w.last ∧
      ∃ k before, offset = p.first + k ∧ p.before[k]? = some before ∧ p.after[k]? = some value ∧
        (if w.isMatch = true then before &&& w.mask ≠ w.value ∧ value &&& w.mask = w.value else before ≠ value)) ∧
    ((p.firing w).map fun x => x.1).Pairwise (· < ·))

/-- A submission becomes a record, by the ring's state and the overflow policy; a record's write ends with the record in
host memory, the indices and the MSI, or with the fault RECORD_WRITE (R151, R153, R164 to R168, R189). The record's 16
bytes hold what 11.6 gives a WATCH and an EVENT, and zero elsewhere. The model's choices in it: a slot address that passes
the end of the address space wraps (log entry 37), and a write that ends in error leaves host memory as it was (log entry
4). -/
def Obligations.NotificationsFollowPolicy : Prop :=
  (∀ (s : State) (x : Submission) (rest : List Submission), s.Works → s.notif.writing = none →
    s.notif.queue = x :: rest →
    let full := s.params.notifySize ≤ s.notifyUnconsumed + 1
    let produced := { s with notif := { s.notif with
      queue := rest, number := s.notif.number + 1, lost := 0,
      writing := some { number := s.notif.number, lost := s.notif.lost, body := x } } }
    let lost := { s.counted .notifyLost with notif := { s.notif with
      queue := rest, number := s.notif.number + 1, lost := min (s.notif.lost + 1) 65535 } }
    (¬ full → (s.params.policy = .freeze → s.notif.frozen = false) →
      exec .notificationTake s = .next produced) ∧
    (full → s.params.policy = .dropNew → exec .notificationTake s = .next lost) ∧
    (full → s.params.policy = .overwriteOld → exec .notificationTake s = .next { s.counted .notifyLost with
      notif := { s.notif with
        queue := rest, number := s.notif.number + 1, lost := 0,
        consumer := (s.notif.consumer + 1) % s.params.notifySize,
        writing := some { number := s.notif.number, lost := min (s.notif.lost + 1) 65535, body := x } } }) ∧
    (full ∨ s.notif.frozen = true → s.params.policy = .freeze →
      exec .notificationTake s = .next { lost with notif.frozen := true })) ∧
  (∀ (s : State) (r : NotifyRecord), s.Works → s.notif.writing = some r →
    let slot := s.params.notifyBase + BitVec.ofNat 64 (16 * s.notif.post)
    exec (.notificationWriteDone true) s = .next { s with
      notif := { s.notif with
        writing := none
        post := (s.notif.post + 1) % s.params.notifySize
        phase := if (s.notif.post + 1) % s.params.notifySize = 0 then !s.notif.phase else s.notif.phase
        irq := true }
      hostMem := s.hostMem.store slot (r.bytes s.notif.phase)
      emitted := (if s.notif.irq then [] else [.msi 1]) ++ .hostWrite slot (r.bytes s.notif.phase) :: s.emitted }) ∧
  (∀ (s : State) (r : NotifyRecord), s.Works → s.notif.writing = some r →
    ∃ t, exec (.notificationWriteDone false) s = .next t ∧ s.HasFaulted t .recordWrite) ∧
  (∀ (r : NotifyRecord) (phase : Bool), (r.bytes phase).length = 16 ∧
    fieldAt (r.bytes phase) 0 2 = r.number.toNat ∧ flagAt (r.bytes phase) 2 0 = phase ∧
    clearFrom (r.bytes phase) 2 2 ∧ byteAt (r.bytes phase) 3 = 0 ∧
    (r.lost ≤ 65535 → fieldAt (r.bytes phase) 4 2 = r.lost) ∧
    match r.body with
    | .watch slot region offset value count source =>
      flagAt (r.bytes phase) 2 1 = false ∧
      fieldAt (r.bytes phase) 6 1 = (match source with | .localHost => 0 | .peer => 1) ∧
      fieldAt (r.bytes phase) 7 1 = slot.val ∧ fieldAt (r.bytes phase) 8 2 = region.val ∧
      (offset ≤ 63 → fieldAt (r.bytes phase) 10 1 = offset) ∧ (count ≤ 64 → fieldAt (r.bytes phase) 11 1 = count) ∧
      fieldAt (r.bytes phase) 12 4 = value.toNat
    | .event event =>
      let holds := fun code parameter region word : Nat =>
        fieldAt (r.bytes phase) 6 1 = code ∧ fieldAt (r.bytes phase) 7 1 = parameter ∧
        fieldAt (r.bytes phase) 8 2 = region ∧ fieldAt (r.bytes phase) 12 4 = word
      flagAt (r.bytes phase) 2 1 = true ∧ fieldAt (r.bytes phase) 10 2 = 0 ∧
      match event with
      | .linkUp => holds 1 0 0xFFFF 0
      | .linkLost reason => holds 2 (match reason with
          | .retry => 1 | .silence => 2 | .peerRestart => 3 | .peerLeft => 4 | .host => 5 | .stop => 6) 0xFFFF 0
      | .linkRejected reason => holds 3 (match reason with
          | .sameNode => 1 | .classMap => 2 | .sweepPeriod => 3) 0xFFFF 0
      | .ownershipArrived region viaGrant => holds 4 (if viaGrant then 1 else 2) region.val 0
      | .ownershipLost region => holds 5 0 region.val 0
      | .ownershipKept region => holds 6 0 region.val 0
      | .deferralExpired region => holds 7 0 region.val 0
      | .cyclicStale region => holds 8 0 region.val 0
      | .cyclicFresh region => holds 9 0 region.val 0
      | .sweepOverrun n => holds 10 0 0xFFFF n.toNat
      | .protocolError kind region => holds 11 (match kind with
          | .reqInClaiming => 1 | .reqRepeated => 2 | .reqGeneration => 3 | .grantUnexpected => 4
          | .grantGeneration => 5 | .grantContent => 6 | .ackAhead => 7 | .regionRange => 8 | .regionOff => 9
          | .updateRange => 10 | .updateClass => 11 | .updateState => 12 | .syncRepeated => 13)
          (match region with
            | some b => b.toNat
            | none => 0xFFFF) 0
      | .notifyResumed n => n ≤ 65535 → holds 12 0 0xFFFF n)

/-! ## Faults and invariants -/

/-- In FAULTED every command but resets, control and register writes, the sending of frames already handed and the end of
a LINK_ACT pulse leaves the part as it is; a part held in cold reset takes nothing but the release and another assertion
of PERST_N (R31, R43, R64, R79, R100, R106, R113, R120, R136, R141, R155, R175, R180). The model's choices in it: a DMA write
that ends in FAULTED puts no bytes into host memory (log entry 24), and while PERST_N is asserted LINK_ACT keeps its level
(log entry 7) and LINK_UP too (log entry 44). -/
def Obligations.StoppedPartStandsStill : Prop :=
  (∀ (s : State) (c : Instr), s.dev.perst = false → s.dev.state = .faulted → s.FaultStopped →
    (match c with
      | .coldReset | .start | .stop | .reset | .clearFault | .controlInvalidCode _ | .registerWrite _ _
      | .frameTake | .transmitEnd | .linkActTimeout => False
      | _ => True) →
    exec c s = .next s) ∧
  (∀ (c : Instr) (s : State), s.dev.perst = true → c ≠ .coldReset → c ≠ .perstNRelease → exec c s = .next s)

/-- Every step keeps the mirror and host memory in their canonical forms. The forms are the model's (log entries 36 and
29): the spec names the words of the mirror (R1, R2) and the bytes of host memory (R189), and no form. -/
def Obligations.StepKeepsMirrorForm : Prop :=
  ∀ s t : State, s.MirrorFormed → step s = .next t → t.MirrorFormed

/-- Every step keeps the link OFF in INIT, HALTED, LOADING and STOPPING, and the timers stopped and the framer's received
frames dropped while the part is FAULTED (R31, R64, R79, R100, R101, R106, R113, R173, R179, R180). That the take of a BYE
in FAULTED leaves the quiet timer stopped is the model's choice (log entry 42). -/
def Obligations.StepKeepsPartAtRest : Prop :=
  (∀ s t : State, s.LinkRests → step s = .next t → t.LinkRests) ∧
  (∀ s t : State, s.FaultStopped → step s = .next t → t.FaultStopped)

/-- Every step keeps a region in HERE free of the stale flag and a pending peer request in HERE only (R16, R31). -/
def Obligations.StepKeepsRegionFlags : Prop :=
  ∀ s t : State, s.FlagsFit → step s = .next t → t.FlagsFit

/-- Every step keeps at most 95 UPDATE frames in the Transmit List and its sequence numbers consecutive (R45, R48). -/
def Obligations.StepKeepsListNumbered : Prop :=
  ∀ s t : State, s.ListNumbered → step s = .next t → t.ListNumbered

/-- Every step keeps at most one hand-over frame of this part outstanding for each region, and none beside a pending peer
request, from every state in which a request pends in HERE only (R22, R31, R45). -/
def Obligations.StepKeepsHandOverSingle : Prop :=
  ∀ s t : State, s.FlagsFit → s.HandOverSingle → step s = .next t → t.HandOverSingle

/-- Every step keeps the sent frames at the front of the Transmit List and within the window, and the resend mark on sent
frames only (R44, R45, R49, R50, R55). -/
def Obligations.StepKeepsWindow : Prop :=
  ∀ s t : State, s.WindowKept → step s = .next t → t.WindowKept

/-- The state after cold reset meets every invariant. -/
def Obligations.InvariantsHoldAtReset : Prop :=
  State.reset.MirrorFormed ∧ State.reset.LinkRests ∧ State.reset.FaultStopped ∧ State.reset.FlagsFit ∧
    State.reset.ListNumbered ∧ State.reset.HandOverSingle ∧ State.reset.WindowKept
end

