-- ==== Sys2Proof/Laws/Layout.lean ====
section
/-! SUPPORT. Little-endian fields: what is written is read back, and where a field of a concatenation lies. -/

namespace Sys2Proof.Machine

/-- A concatenation as a number. -/
theorem toNat_append_bytes {n m : Nat} (x : BitVec n) (y : BitVec m) : (x ++ y).toNat = x.toNat * 2 ^ m + y.toNat := by
  rw [BitVec.toNat_append, ← Nat.shiftLeft_add_eq_or_of_lt y.isLt, Nat.shiftLeft_eq]

/-- Four bytes as a word, the last one highest (R185). -/
theorem leNat_word (b0 b1 b2 b3 : Byte) : (b3 ++ b2 ++ b1 ++ b0 : BitVec 32).toNat = leNat [b0, b1, b2, b3] := by
  simp only [toNat_append_bytes, leNat]; omega

/-- Little-endian bytes of a concatenation. -/
theorem leNat_append (a b : List Byte) : leNat (a ++ b) = leNat a + 256 ^ a.length * leNat b := by
  induction a with
  | nil => simp [leNat]
  | cons x a ih => simp only [List.cons_append, leNat, ih, List.length_cons, pow_succ]; ring

/-- Bytes hold a number below 256 to their count. -/
theorem leNat_lt (a : List Byte) : leNat a < 256 ^ a.length := by
  induction a with
  | nil => simp [leNat]
  | cons x a ih => simp only [leNat, List.length_cons, pow_succ]; have := x.isLt; omega

@[simp] theorem length_leBytes (n v : Nat) : (leBytes n v).length = n := by
  induction n generalizing v with
  | zero => rfl
  | succ n ih => simp [leBytes, ih]

/-- Bytes written little-endian are read back. -/
theorem leNat_leBytes (n v : Nat) : leNat (leBytes n v) = v % 256 ^ n := by
  induction n generalizing v with
  | zero => simp [leBytes, leNat, Nat.mod_one]
  | succ n ih =>
    simp only [leBytes, leNat, ih, BitVec.toNat_ofNat]
    have h : 256 ^ (n + 1) = 256 * 256 ^ n := by ring
    rw [h, Nat.mod_mul]

/-- A field that lies in the first part. -/
theorem fieldAt_append_left {a b : List Byte} {o n : Nat} (h : o + n ≤ a.length) : fieldAt (a ++ b) o n = fieldAt a o n := by
  unfold fieldAt
  rw [List.drop_append_of_le_length (by omega), List.take_append_of_le_length (by simp; omega)]

/-- A field that lies in the second part. -/
theorem fieldAt_append_right {a b : List Byte} {o n : Nat} (h : a.length ≤ o) : fieldAt (a ++ b) o n = fieldAt b (o - a.length) n := by
  unfold fieldAt
  rw [List.drop_append, List.drop_eq_nil_of_le h, List.nil_append]

theorem fieldAt_leBytes (n v : Nat) (rest : List Byte) : fieldAt (leBytes n v ++ rest) 0 n = v % 256 ^ n := by
  unfold fieldAt
  rw [List.drop_zero, List.take_left' (by simp), leNat_leBytes]

@[simp] theorem length_wordBytes (ws : List Word) : (wordBytes ws).length = 4 * ws.length := by
  induction ws with
  | nil => rfl
  | cons w ws ih => simp only [wordBytes, List.flatMap_cons, List.length_append, length_leBytes, List.length_cons] at ih ⊢; omega

/-- Words written are read back (R185). -/
theorem bytesWords_wordBytes (ws : List Word) : bytesWords (wordBytes ws) = ws := by
  induction ws with
  | nil => rfl
  | cons w ws ih =>
    have : wordBytes (w :: ws) = leBytes 4 w.toNat ++ wordBytes ws := rfl
    rw [this]
    have h4 : leNat (leBytes 4 w.toNat) = w.toNat := by
      rw [leNat_leBytes]; have := w.isLt; omega
    simp only [leBytes, List.cons_append, List.nil_append, bytesWords, ih] at h4 ⊢
    rw [h4]; simp

end Sys2Proof.Machine
end

