-- ==== Sys2Proof/Laws/Fields.lean ====
section
/-! SUPPORT. A field byte by byte: the legal inputs of Safety.lean (`halfAt`, `wordAt`, `addrAt`, `zeroBetween`, `clearFrom`)
are the fields the model's checks read (`fieldAt`, `zeroBytes`, `flagAt`). -/

namespace Sys2Proof.Machine

/-- A field is its lowest byte and 256 times the field above it. -/
theorem fieldAt_succ (b : List Byte) (o n : Nat) :
    fieldAt b o (n + 1) = (byteAt b o).toNat + 256 * fieldAt b (o + 1) n := by
  unfold byteAt fieldAt
  rcases h : b.drop o with _ | ⟨x, l⟩
  · have h1 : b.drop (o + 1) = [] := by
      have := congrArg (List.drop 1) h
      simpa [List.drop_drop, Nat.add_comm] using this
    simp [h1, leNat]
  · have h1 : b.drop (o + 1) = l := by
      have := congrArg (List.drop 1) h
      simpa [List.drop_drop, Nat.add_comm] using this
    simp [h1, leNat]

@[simp] theorem fieldAt_zero (b : List Byte) (o : Nat) : fieldAt b o 0 = 0 := by simp [fieldAt, leNat]

theorem fieldAt_one (b : List Byte) (o : Nat) : fieldAt b o 1 = (byteAt b o).toNat := by simp [fieldAt_succ]

theorem fieldAt_add (b : List Byte) (o m n : Nat) :
    fieldAt b o (m + n) = fieldAt b o m + 256 ^ m * fieldAt b (o + m) n := by
  induction m generalizing o with
  | zero => simp
  | succ m ih =>
    rw [show m + 1 + n = (m + n) + 1 by omega, fieldAt_succ, ih, fieldAt_succ, show o + 1 + m = o + (m + 1) by omega]
    ring

theorem toNat_halfAt (b : List Byte) (o : Nat) : (halfAt b o).toNat = fieldAt b o 2 := by
  rw [halfAt, toNat_append_bytes, fieldAt_add b o 1 1, fieldAt_one, fieldAt_one]
  omega

theorem toNat_wordAt (b : List Byte) (o : Nat) : (wordAt b o).toNat = fieldAt b o 4 := by
  rw [wordAt, toNat_append_bytes, fieldAt_add b o 2 2, toNat_halfAt, toNat_halfAt]
  omega

theorem toNat_addrAt (b : List Byte) (o : Nat) : (addrAt b o).toNat = fieldAt b o 8 := by
  rw [addrAt, toNat_append_bytes, fieldAt_add b o 4 4, toNat_wordAt, toNat_wordAt]
  omega

/-- A field is zero where each of its bytes is. -/
theorem zeroBytes_iff (b : List Byte) (o n : Nat) : zeroBytes b o (n + 1) = true ↔ zeroBetween b o (o + n) := by
  simp only [zeroBytes, decide_eq_true_eq]
  induction n generalizing o with
  | zero =>
    rw [fieldAt_one]
    constructor
    · intro h k h1 h2
      obtain rfl : k = o := by omega
      exact BitVec.eq_of_toNat_eq h
    · intro h
      rw [h o le_rfl le_rfl]
      rfl
  | succ n ih =>
    rw [fieldAt_succ]
    constructor
    · intro h k h1 h2
      rcases Nat.eq_or_lt_of_le h1 with rfl | h1
      · exact BitVec.eq_of_toNat_eq (by simpa using Nat.eq_zero_of_add_eq_zero_right h)
      · exact (ih (o + 1)).1 (by omega) k (by omega) (by omega)
    · intro h
      have h1 := (ih (o + 1)).2 fun k a c => h k (by omega) (by omega)
      rw [h o le_rfl (by omega)]
      simp
      omega

theorem flagAt_eq (b : List Byte) (o k : Nat) : flagAt b o k = (byteAt b o).getLsbD k := by
  simp [flagAt, fieldAt_one, BitVec.getLsbD]

/-- A byte is below 2^low where no bit from `low` up is set. -/
theorem clearFrom_iff (b : List Byte) (o low : Nat) : clearFrom b o low ↔ fieldAt b o 1 < 2 ^ low := by
  rw [fieldAt_one]
  simp only [clearFrom, flagAt_eq]
  constructor
  · intro h1
    apply Nat.lt_pow_two_of_testBit
    intro i hi
    by_cases h8 : i < 8
    · exact h1 i hi h8
    · exact BitVec.getLsbD_of_ge _ _ (by omega)
  · intro h1 k hk _
    exact Nat.testBit_lt_two_pow (lt_of_lt_of_le h1 (Nat.pow_le_pow_right (by omega) hk))

end Sys2Proof.Machine
end

