-- ==== Sys2Proof/Laws/State.lean ====
section
/-! SUPPORT. What each shared operation leaves alone: one lemma an operation, for every block of the state that it does not
touch. -/

namespace Sys2Proof.Machine

@[simp] theorem State.raise_frame (s : State) (c : Counter) :
    (s.raise c).mirror = s.mirror ∧ (s.raise c).regions = s.regions ∧ (s.raise c).rings = s.rings ∧
    (s.raise c).cmd = s.cmd ∧ (s.raise c).stream = s.stream ∧ (s.raise c).sweep = s.sweep ∧
    (s.raise c).link = s.link ∧ (s.raise c).framer = s.framer ∧ (s.raise c).watch = s.watch ∧
    (s.raise c).notif = s.notif ∧ (s.raise c).pinLinkAct = s.pinLinkAct ∧ (s.raise c).hostMem = s.hostMem ∧
    (s.raise c).emitted = s.emitted ∧ (s.raise c).choices = s.choices ∧ (s.raise c).pending = s.pending :=
  ⟨rfl, rfl, rfl, rfl, rfl, rfl, rfl, rfl, rfl, rfl, rfl, rfl, rfl, rfl, rfl⟩

@[simp] theorem State.submit_frame (s : State) (x : Submission) :
    (s.submit x).dev = s.dev ∧ (s.submit x).mirror = s.mirror ∧ (s.submit x).regions = s.regions ∧
    (s.submit x).rings = s.rings ∧ (s.submit x).cmd = s.cmd ∧ (s.submit x).stream = s.stream ∧
    (s.submit x).sweep = s.sweep ∧ (s.submit x).link = s.link ∧ (s.submit x).framer = s.framer ∧
    (s.submit x).watch = s.watch ∧ (s.submit x).pinLinkAct = s.pinLinkAct ∧ (s.submit x).hostMem = s.hostMem ∧
    (s.submit x).emitted = s.emitted ∧ (s.submit x).choices = s.choices ∧ (s.submit x).pending = s.pending :=
  ⟨rfl, rfl, rfl, rfl, rfl, rfl, rfl, rfl, rfl, rfl, rfl, rfl, rfl, rfl, rfl⟩

@[simp] theorem State.event_frame (s : State) (e : Event) :
    (s.event e).dev = s.dev ∧ (s.event e).mirror = s.mirror ∧ (s.event e).regions = s.regions ∧
    (s.event e).rings = s.rings ∧ (s.event e).cmd = s.cmd ∧ (s.event e).stream = s.stream ∧
    (s.event e).sweep = s.sweep ∧ (s.event e).link = s.link ∧ (s.event e).framer = s.framer ∧
    (s.event e).watch = s.watch ∧ (s.event e).pinLinkAct = s.pinLinkAct ∧ (s.event e).hostMem = s.hostMem ∧
    (s.event e).emitted = s.emitted ∧ (s.event e).choices = s.choices ∧ (s.event e).pending = s.pending :=
  ⟨rfl, rfl, rfl, rfl, rfl, rfl, rfl, rfl, rfl, rfl, rfl, rfl, rfl, rfl, rfl⟩

@[simp] theorem State.protocolError_frame (s : State) (k : ProtocolKind) (b : Option Byte) :
    (s.protocolError k b).mirror = s.mirror ∧ (s.protocolError k b).regions = s.regions ∧
    (s.protocolError k b).rings = s.rings ∧ (s.protocolError k b).cmd = s.cmd ∧
    (s.protocolError k b).stream = s.stream ∧ (s.protocolError k b).sweep = s.sweep ∧
    (s.protocolError k b).link = s.link ∧ (s.protocolError k b).framer = s.framer ∧
    (s.protocolError k b).watch = s.watch ∧ (s.protocolError k b).pinLinkAct = s.pinLinkAct ∧
    (s.protocolError k b).hostMem = s.hostMem ∧ (s.protocolError k b).emitted = s.emitted ∧
    (s.protocolError k b).choices = s.choices ∧ (s.protocolError k b).pending = s.pending :=
  ⟨rfl, rfl, rfl, rfl, rfl, rfl, rfl, rfl, rfl, rfl, rfl, rfl, rfl, rfl⟩

@[simp] theorem State.setRegion_frame (s : State) (r : Fin 64) (e : RegionEntry) :
    (s.setRegion r e).dev = s.dev ∧ (s.setRegion r e).mirror = s.mirror ∧ (s.setRegion r e).rings = s.rings ∧
    (s.setRegion r e).cmd = s.cmd ∧ (s.setRegion r e).stream = s.stream ∧ (s.setRegion r e).sweep = s.sweep ∧
    (s.setRegion r e).link = s.link ∧ (s.setRegion r e).framer = s.framer ∧ (s.setRegion r e).watch = s.watch ∧
    (s.setRegion r e).notif = s.notif ∧ (s.setRegion r e).pinLinkAct = s.pinLinkAct ∧
    (s.setRegion r e).hostMem = s.hostMem ∧ (s.setRegion r e).emitted = s.emitted ∧
    (s.setRegion r e).choices = s.choices ∧ (s.setRegion r e).pending = s.pending :=
  ⟨rfl, rfl, rfl, rfl, rfl, rfl, rfl, rfl, rfl, rfl, rfl, rfl, rfl, rfl, rfl⟩

@[simp] theorem State.mapRegions_frame (s : State) (f : Fin 64 → RegionEntry → RegionEntry) :
    (s.mapRegions f).dev = s.dev ∧ (s.mapRegions f).mirror = s.mirror ∧ (s.mapRegions f).rings = s.rings ∧
    (s.mapRegions f).cmd = s.cmd ∧ (s.mapRegions f).stream = s.stream ∧ (s.mapRegions f).sweep = s.sweep ∧
    (s.mapRegions f).link = s.link ∧ (s.mapRegions f).framer = s.framer ∧ (s.mapRegions f).watch = s.watch ∧
    (s.mapRegions f).notif = s.notif ∧ (s.mapRegions f).pinLinkAct = s.pinLinkAct ∧
    (s.mapRegions f).hostMem = s.hostMem ∧ (s.mapRegions f).emitted = s.emitted ∧
    (s.mapRegions f).choices = s.choices ∧ (s.mapRegions f).pending = s.pending :=
  by
  simp [State.mapRegions]

@[simp] theorem State.chosen_frame (s : State) (n : Nat) :
    (s.chosen n).dev = s.dev ∧ (s.chosen n).mirror = s.mirror ∧ (s.chosen n).regions = s.regions ∧
    (s.chosen n).rings = s.rings ∧ (s.chosen n).cmd = s.cmd ∧ (s.chosen n).stream = s.stream ∧
    (s.chosen n).sweep = s.sweep ∧ (s.chosen n).link = s.link ∧ (s.chosen n).framer = s.framer ∧
    (s.chosen n).watch = s.watch ∧ (s.chosen n).notif = s.notif ∧ (s.chosen n).pinLinkAct = s.pinLinkAct ∧
    (s.chosen n).hostMem = s.hostMem ∧ (s.chosen n).emitted = s.emitted ∧ (s.chosen n).pending = s.pending :=
  by
  unfold State.chosen; split <;> simp

@[simp] theorem State.setSubRing_frame (s : State) (ring : Ring) (v : SubRing) :
    (s.setSubRing ring v).dev = s.dev ∧ (s.setSubRing ring v).mirror = s.mirror ∧
    (s.setSubRing ring v).regions = s.regions ∧ (s.setSubRing ring v).cmd = s.cmd ∧
    (s.setSubRing ring v).stream = s.stream ∧ (s.setSubRing ring v).sweep = s.sweep ∧
    (s.setSubRing ring v).link = s.link ∧ (s.setSubRing ring v).framer = s.framer ∧
    (s.setSubRing ring v).watch = s.watch ∧ (s.setSubRing ring v).notif = s.notif ∧
    (s.setSubRing ring v).pinLinkAct = s.pinLinkAct ∧ (s.setSubRing ring v).hostMem = s.hostMem ∧
    (s.setSubRing ring v).emitted = s.emitted ∧ (s.setSubRing ring v).choices = s.choices ∧
    (s.setSubRing ring v).pending = s.pending :=
  by
  cases ring <;> simp [State.setSubRing]

@[simp] theorem State.offerResource_frame (s : State) (x : Resource) :
    (s.offerResource x).dev = s.dev ∧ (s.offerResource x).mirror = s.mirror ∧
    (s.offerResource x).regions = s.regions ∧ (s.offerResource x).cmd = s.cmd ∧
    (s.offerResource x).stream = s.stream ∧ (s.offerResource x).sweep = s.sweep ∧ (s.offerResource x).link = s.link ∧
    (s.offerResource x).framer = s.framer ∧ (s.offerResource x).watch = s.watch ∧
    (s.offerResource x).notif = s.notif ∧ (s.offerResource x).pinLinkAct = s.pinLinkAct ∧
    (s.offerResource x).hostMem = s.hostMem ∧ (s.offerResource x).emitted = s.emitted ∧
    (s.offerResource x).choices = s.choices ∧ (s.offerResource x).pending = s.pending :=
  ⟨rfl, rfl, rfl, rfl, rfl, rfl, rfl, rfl, rfl, rfl, rfl, rfl, rfl, rfl, rfl⟩

@[simp] theorem State.beginFetch_frame (s : State) (ring : Ring) :
    (s.beginFetch ring).dev = s.dev ∧ (s.beginFetch ring).mirror = s.mirror ∧
    (s.beginFetch ring).regions = s.regions ∧ (s.beginFetch ring).cmd = s.cmd ∧
    (s.beginFetch ring).stream = s.stream ∧ (s.beginFetch ring).sweep = s.sweep ∧ (s.beginFetch ring).link = s.link ∧
    (s.beginFetch ring).framer = s.framer ∧ (s.beginFetch ring).watch = s.watch ∧
    (s.beginFetch ring).notif = s.notif ∧ (s.beginFetch ring).pinLinkAct = s.pinLinkAct ∧
    (s.beginFetch ring).hostMem = s.hostMem ∧ (s.beginFetch ring).choices = s.choices ∧
    (s.beginFetch ring).pending = s.pending :=
  by
  unfold State.beginFetch; split <;> simp

@[simp] theorem State.setEntry_frame (s : State) (i : Fin 32) (e : OctEntry) :
    (s.setEntry i e).dev = s.dev ∧ (s.setEntry i e).mirror = s.mirror ∧ (s.setEntry i e).regions = s.regions ∧
    (s.setEntry i e).rings = s.rings ∧ (s.setEntry i e).stream = s.stream ∧ (s.setEntry i e).sweep = s.sweep ∧
    (s.setEntry i e).link = s.link ∧ (s.setEntry i e).framer = s.framer ∧ (s.setEntry i e).watch = s.watch ∧
    (s.setEntry i e).notif = s.notif ∧ (s.setEntry i e).pinLinkAct = s.pinLinkAct ∧
    (s.setEntry i e).hostMem = s.hostMem ∧ (s.setEntry i e).emitted = s.emitted ∧
    (s.setEntry i e).choices = s.choices ∧ (s.setEntry i e).pending = s.pending :=
  ⟨rfl, rfl, rfl, rfl, rfl, rfl, rfl, rfl, rfl, rfl, rfl, rfl, rfl, rfl, rfl⟩

@[simp] theorem State.freeStaging_frame (s : State) (j : Option (Fin 8)) :
    (s.freeStaging j).dev = s.dev ∧ (s.freeStaging j).mirror = s.mirror ∧ (s.freeStaging j).regions = s.regions ∧
    (s.freeStaging j).stream = s.stream ∧ (s.freeStaging j).sweep = s.sweep ∧ (s.freeStaging j).link = s.link ∧
    (s.freeStaging j).framer = s.framer ∧ (s.freeStaging j).watch = s.watch ∧ (s.freeStaging j).notif = s.notif ∧
    (s.freeStaging j).pinLinkAct = s.pinLinkAct ∧ (s.freeStaging j).hostMem = s.hostMem ∧
    (s.freeStaging j).emitted = s.emitted ∧ (s.freeStaging j).choices = s.choices ∧
    (s.freeStaging j).pending = s.pending :=
  by
  cases j <;> simp [State.freeStaging]

@[simp] theorem State.freeBuffer_frame (s : State) (j : Option (Fin 4)) :
    (s.freeBuffer j).dev = s.dev ∧ (s.freeBuffer j).mirror = s.mirror ∧ (s.freeBuffer j).regions = s.regions ∧
    (s.freeBuffer j).stream = s.stream ∧ (s.freeBuffer j).sweep = s.sweep ∧ (s.freeBuffer j).link = s.link ∧
    (s.freeBuffer j).framer = s.framer ∧ (s.freeBuffer j).watch = s.watch ∧ (s.freeBuffer j).notif = s.notif ∧
    (s.freeBuffer j).pinLinkAct = s.pinLinkAct ∧ (s.freeBuffer j).hostMem = s.hostMem ∧
    (s.freeBuffer j).emitted = s.emitted ∧ (s.freeBuffer j).choices = s.choices ∧ (s.freeBuffer j).pending = s.pending :=
  by
  cases j <;> simp [State.freeBuffer]

@[simp] theorem State.requestCompletion_frame (s : State) (i : Fin 32) (st : Status) (info : Info) :
    (s.requestCompletion i st info).dev = s.dev ∧ (s.requestCompletion i st info).mirror = s.mirror ∧
    (s.requestCompletion i st info).regions = s.regions ∧ (s.requestCompletion i st info).stream = s.stream ∧
    (s.requestCompletion i st info).sweep = s.sweep ∧ (s.requestCompletion i st info).link = s.link ∧
    (s.requestCompletion i st info).framer = s.framer ∧ (s.requestCompletion i st info).watch = s.watch ∧
    (s.requestCompletion i st info).notif = s.notif ∧ (s.requestCompletion i st info).pinLinkAct = s.pinLinkAct ∧
    (s.requestCompletion i st info).hostMem = s.hostMem ∧ (s.requestCompletion i st info).emitted = s.emitted ∧
    (s.requestCompletion i st info).choices = s.choices ∧ (s.requestCompletion i st info).pending = s.pending :=
  by
  unfold State.requestCompletion; split <;> simp

@[simp] theorem State.leaveHead_frame (s : State) :
    (s.leaveHead).dev = s.dev ∧ (s.leaveHead).mirror = s.mirror ∧ (s.leaveHead).regions = s.regions ∧
    (s.leaveHead).rings = s.rings ∧ (s.leaveHead).stream = s.stream ∧ (s.leaveHead).sweep = s.sweep ∧
    (s.leaveHead).link = s.link ∧ (s.leaveHead).framer = s.framer ∧ (s.leaveHead).watch = s.watch ∧
    (s.leaveHead).notif = s.notif ∧ (s.leaveHead).pinLinkAct = s.pinLinkAct ∧ (s.leaveHead).hostMem = s.hostMem ∧
    (s.leaveHead).emitted = s.emitted ∧ (s.leaveHead).choices = s.choices ∧ (s.leaveHead).pending = s.pending :=
  ⟨rfl, rfl, rfl, rfl, rfl, rfl, rfl, rfl, rfl, rfl, rfl, rfl, rfl, rfl, rfl⟩

@[simp] theorem State.finishHead_frame (s : State) (i : Fin 32) (st : Status) (info : Info) :
    (s.finishHead i st info).dev = s.dev ∧ (s.finishHead i st info).mirror = s.mirror ∧
    (s.finishHead i st info).regions = s.regions ∧ (s.finishHead i st info).stream = s.stream ∧
    (s.finishHead i st info).sweep = s.sweep ∧ (s.finishHead i st info).link = s.link ∧
    (s.finishHead i st info).framer = s.framer ∧ (s.finishHead i st info).watch = s.watch ∧
    (s.finishHead i st info).notif = s.notif ∧ (s.finishHead i st info).pinLinkAct = s.pinLinkAct ∧
    (s.finishHead i st info).hostMem = s.hostMem ∧ (s.finishHead i st info).emitted = s.emitted ∧
    (s.finishHead i st info).choices = s.choices ∧ (s.finishHead i st info).pending = s.pending :=
  by
  simp [State.finishHead]

@[simp] theorem State.awaitEvent_frame (s : State) (i : Fin 32) (e : OctEntry) :
    (s.awaitEvent i e).dev = s.dev ∧ (s.awaitEvent i e).mirror = s.mirror ∧ (s.awaitEvent i e).regions = s.regions ∧
    (s.awaitEvent i e).rings = s.rings ∧ (s.awaitEvent i e).stream = s.stream ∧ (s.awaitEvent i e).sweep = s.sweep ∧
    (s.awaitEvent i e).link = s.link ∧ (s.awaitEvent i e).framer = s.framer ∧ (s.awaitEvent i e).watch = s.watch ∧
    (s.awaitEvent i e).notif = s.notif ∧ (s.awaitEvent i e).pinLinkAct = s.pinLinkAct ∧
    (s.awaitEvent i e).hostMem = s.hostMem ∧ (s.awaitEvent i e).emitted = s.emitted ∧
    (s.awaitEvent i e).choices = s.choices ∧ (s.awaitEvent i e).pending = s.pending :=
  ⟨rfl, rfl, rfl, rfl, rfl, rfl, rfl, rfl, rfl, rfl, rfl, rfl, rfl, rfl, rfl⟩

@[simp] theorem State.enterFaulted_frame (s : State) (code : FaultCode) :
    (s.enterFaulted code).mirror = s.mirror ∧ (s.enterFaulted code).cmd = s.cmd ∧
    (s.enterFaulted code).watch = s.watch ∧ (s.enterFaulted code).notif = s.notif ∧
    (s.enterFaulted code).pinLinkAct = s.pinLinkAct ∧ (s.enterFaulted code).hostMem = s.hostMem ∧
    (s.enterFaulted code).choices = s.choices ∧ (s.enterFaulted code).pending = s.pending :=
  by
  unfold State.enterFaulted; split <;> simp

@[simp] theorem State.enqueue_frame (s : State) (c : SeqContent) (o : Option (Fin 32)) :
    (s.enqueue c o).dev = s.dev ∧ (s.enqueue c o).mirror = s.mirror ∧ (s.enqueue c o).regions = s.regions ∧
    (s.enqueue c o).rings = s.rings ∧ (s.enqueue c o).cmd = s.cmd ∧ (s.enqueue c o).sweep = s.sweep ∧
    (s.enqueue c o).link = s.link ∧ (s.enqueue c o).framer = s.framer ∧ (s.enqueue c o).watch = s.watch ∧
    (s.enqueue c o).notif = s.notif ∧ (s.enqueue c o).pinLinkAct = s.pinLinkAct ∧
    (s.enqueue c o).hostMem = s.hostMem ∧ (s.enqueue c o).emitted = s.emitted ∧ (s.enqueue c o).choices = s.choices ∧
    (s.enqueue c o).pending = s.pending :=
  ⟨rfl, rfl, rfl, rfl, rfl, rfl, rfl, rfl, rfl, rfl, rfl, rfl, rfl, rfl, rfl⟩

@[simp] theorem State.deny_frame (s : State) (r : Fin 64) (d : DenyReason) :
    (s.deny r d).dev = s.dev ∧ (s.deny r d).mirror = s.mirror ∧ (s.deny r d).regions = s.regions ∧
    (s.deny r d).rings = s.rings ∧ (s.deny r d).cmd = s.cmd ∧ (s.deny r d).sweep = s.sweep ∧
    (s.deny r d).link = s.link ∧ (s.deny r d).framer = s.framer ∧ (s.deny r d).watch = s.watch ∧
    (s.deny r d).notif = s.notif ∧ (s.deny r d).pinLinkAct = s.pinLinkAct ∧ (s.deny r d).hostMem = s.hostMem ∧
    (s.deny r d).emitted = s.emitted ∧ (s.deny r d).choices = s.choices ∧ (s.deny r d).pending = s.pending :=
  ⟨rfl, rfl, rfl, rfl, rfl, rfl, rfl, rfl, rfl, rfl, rfl, rfl, rfl, rfl, rfl⟩

@[simp] theorem State.apply_frame (s : State) (r : Fin 64) (o : Nat) (ws : List Word) (src : ApplySource) :
    (s.apply r o ws src).dev = s.dev ∧ (s.apply r o ws src).regions = s.regions ∧
    (s.apply r o ws src).rings = s.rings ∧ (s.apply r o ws src).cmd = s.cmd ∧ (s.apply r o ws src).stream = s.stream ∧
    (s.apply r o ws src).sweep = s.sweep ∧ (s.apply r o ws src).link = s.link ∧
    (s.apply r o ws src).framer = s.framer ∧ (s.apply r o ws src).notif = s.notif ∧
    (s.apply r o ws src).pinLinkAct = s.pinLinkAct ∧ (s.apply r o ws src).hostMem = s.hostMem ∧
    (s.apply r o ws src).emitted = s.emitted ∧ (s.apply r o ws src).choices = s.choices ∧
    (s.apply r o ws src).pending = s.pending :=
  ⟨rfl, rfl, rfl, rfl, rfl, rfl, rfl, rfl, rfl, rfl, rfl, rfl, rfl, rfl⟩

@[simp] theorem State.grantWith_frame (s : State) (r : Fin 64) (ws : Option (List Word)) :
    (s.grantWith r ws).dev = s.dev ∧ (s.grantWith r ws).mirror = s.mirror ∧ (s.grantWith r ws).rings = s.rings ∧
    (s.grantWith r ws).cmd = s.cmd ∧ (s.grantWith r ws).sweep = s.sweep ∧ (s.grantWith r ws).link = s.link ∧
    (s.grantWith r ws).framer = s.framer ∧ (s.grantWith r ws).watch = s.watch ∧ (s.grantWith r ws).notif = s.notif ∧
    (s.grantWith r ws).pinLinkAct = s.pinLinkAct ∧ (s.grantWith r ws).hostMem = s.hostMem ∧
    (s.grantWith r ws).emitted = s.emitted ∧ (s.grantWith r ws).choices = s.choices ∧
    (s.grantWith r ws).pending = s.pending :=
  ⟨rfl, rfl, rfl, rfl, rfl, rfl, rfl, rfl, rfl, rfl, rfl, rfl, rfl, rfl⟩

@[simp] theorem State.grantStep_frame (s : State) (r : Fin 64) :
    (s.grantStep r).mirror = s.mirror ∧ (s.grantStep r).cmd = s.cmd ∧ (s.grantStep r).watch = s.watch ∧
    (s.grantStep r).notif = s.notif ∧ (s.grantStep r).pinLinkAct = s.pinLinkAct ∧
    (s.grantStep r).hostMem = s.hostMem ∧ (s.grantStep r).choices = s.choices ∧ (s.grantStep r).pending = s.pending :=
  by
  unfold State.grantStep; repeat' split
  all_goals simp

@[simp] theorem State.grantIfDue_frame (s : State) (r : Fin 64) :
    (s.grantIfDue r).mirror = s.mirror ∧ (s.grantIfDue r).cmd = s.cmd ∧ (s.grantIfDue r).watch = s.watch ∧
    (s.grantIfDue r).notif = s.notif ∧ (s.grantIfDue r).pinLinkAct = s.pinLinkAct ∧
    (s.grantIfDue r).hostMem = s.hostMem ∧ (s.grantIfDue r).choices = s.choices ∧ (s.grantIfDue r).pending = s.pending :=
  by
  unfold State.grantIfDue; repeat' split
  all_goals simp

@[simp] theorem State.enqueueBatch_frame (s : State) (l : List SeqContent) (o : Option (Fin 32)) :
    (s.enqueueBatch l o).dev = s.dev ∧ (s.enqueueBatch l o).mirror = s.mirror ∧
    (s.enqueueBatch l o).regions = s.regions ∧ (s.enqueueBatch l o).rings = s.rings ∧
    (s.enqueueBatch l o).cmd = s.cmd ∧ (s.enqueueBatch l o).sweep = s.sweep ∧ (s.enqueueBatch l o).link = s.link ∧
    (s.enqueueBatch l o).framer = s.framer ∧ (s.enqueueBatch l o).watch = s.watch ∧
    (s.enqueueBatch l o).notif = s.notif ∧ (s.enqueueBatch l o).pinLinkAct = s.pinLinkAct ∧
    (s.enqueueBatch l o).hostMem = s.hostMem ∧ (s.enqueueBatch l o).emitted = s.emitted ∧
    (s.enqueueBatch l o).choices = s.choices ∧ (s.enqueueBatch l o).pending = s.pending :=
  by
  unfold State.enqueueBatch
  induction l generalizing s with
  | nil => exact ⟨rfl, rfl, rfl, rfl, rfl, rfl, rfl, rfl, rfl, rfl, rfl, rfl, rfl, rfl, rfl⟩
  | cons c l ih => simpa [State.enqueueFor] using ih (s.enqueue c o)

@[simp] theorem State.lowerStaging_frame (s : State) (r : Fin 64) :
    (s.lowerStaging r).dev = s.dev ∧ (s.lowerStaging r).mirror = s.mirror ∧ (s.lowerStaging r).rings = s.rings ∧
    (s.lowerStaging r).cmd = s.cmd ∧ (s.lowerStaging r).stream = s.stream ∧ (s.lowerStaging r).sweep = s.sweep ∧
    (s.lowerStaging r).link = s.link ∧ (s.lowerStaging r).framer = s.framer ∧ (s.lowerStaging r).watch = s.watch ∧
    (s.lowerStaging r).notif = s.notif ∧ (s.lowerStaging r).pinLinkAct = s.pinLinkAct ∧
    (s.lowerStaging r).hostMem = s.hostMem ∧ (s.lowerStaging r).emitted = s.emitted ∧
    (s.lowerStaging r).choices = s.choices ∧ (s.lowerStaging r).pending = s.pending :=
  ⟨rfl, rfl, rfl, rfl, rfl, rfl, rfl, rfl, rfl, rfl, rfl, rfl, rfl, rfl, rfl⟩

@[simp] theorem State.writeTakesEffect_frame (s : State) (e : OctEntry) (r : Fin 64) :
    (s.writeTakesEffect e r).dev = s.dev ∧ (s.writeTakesEffect e r).mirror = s.mirror ∧
    (s.writeTakesEffect e r).sweep = s.sweep ∧ (s.writeTakesEffect e r).link = s.link ∧
    (s.writeTakesEffect e r).framer = s.framer ∧ (s.writeTakesEffect e r).watch = s.watch ∧
    (s.writeTakesEffect e r).notif = s.notif ∧ (s.writeTakesEffect e r).pinLinkAct = s.pinLinkAct ∧
    (s.writeTakesEffect e r).hostMem = s.hostMem ∧ (s.writeTakesEffect e r).emitted = s.emitted ∧
    (s.writeTakesEffect e r).choices = s.choices ∧ (s.writeTakesEffect e r).pending = s.pending :=
  by
  simp [State.writeTakesEffect]

@[simp] theorem State.writeCompletes_frame (s : State) (i : Fin 32) (e : OctEntry) (r : Fin 64) (st : Status) (info : Info) :
    (s.writeCompletes i e r st info).mirror = s.mirror ∧ (s.writeCompletes i e r st info).watch = s.watch ∧
    (s.writeCompletes i e r st info).notif = s.notif ∧ (s.writeCompletes i e r st info).pinLinkAct = s.pinLinkAct ∧
    (s.writeCompletes i e r st info).hostMem = s.hostMem ∧ (s.writeCompletes i e r st info).choices = s.choices ∧
    (s.writeCompletes i e r st info).pending = s.pending :=
  by
  simp [State.writeCompletes]

@[simp] theorem State.handHello_frame (s : State) (h : Option (BitVec 16)) (j : Bool) (c : HelloContent) :
    (s.handHello h j c).dev = s.dev ∧ (s.handHello h j c).mirror = s.mirror ∧
    (s.handHello h j c).regions = s.regions ∧ (s.handHello h j c).rings = s.rings ∧ (s.handHello h j c).cmd = s.cmd ∧
    (s.handHello h j c).stream = s.stream ∧ (s.handHello h j c).sweep = s.sweep ∧ (s.handHello h j c).link = s.link ∧
    (s.handHello h j c).watch = s.watch ∧ (s.handHello h j c).notif = s.notif ∧
    (s.handHello h j c).pinLinkAct = s.pinLinkAct ∧ (s.handHello h j c).hostMem = s.hostMem ∧
    (s.handHello h j c).emitted = s.emitted ∧ (s.handHello h j c).choices = s.choices ∧
    (s.handHello h j c).pending = s.pending :=
  ⟨rfl, rfl, rfl, rfl, rfl, rfl, rfl, rfl, rfl, rfl, rfl, rfl, rfl, rfl, rfl⟩

@[simp] theorem State.handSeekingHello_frame (s : State) :
    (s.handSeekingHello).dev = s.dev ∧ (s.handSeekingHello).mirror = s.mirror ∧
    (s.handSeekingHello).regions = s.regions ∧ (s.handSeekingHello).rings = s.rings ∧
    (s.handSeekingHello).cmd = s.cmd ∧ (s.handSeekingHello).stream = s.stream ∧ (s.handSeekingHello).sweep = s.sweep ∧
    (s.handSeekingHello).link = s.link ∧ (s.handSeekingHello).watch = s.watch ∧ (s.handSeekingHello).notif = s.notif ∧
    (s.handSeekingHello).pinLinkAct = s.pinLinkAct ∧ (s.handSeekingHello).hostMem = s.hostMem ∧
    (s.handSeekingHello).emitted = s.emitted ∧ (s.handSeekingHello).choices = s.choices ∧
    (s.handSeekingHello).pending = s.pending :=
  ⟨rfl, rfl, rfl, rfl, rfl, rfl, rfl, rfl, rfl, rfl, rfl, rfl, rfl, rfl, rfl⟩

@[simp] theorem State.handJoiningHello_frame (s : State) :
    (s.handJoiningHello).dev = s.dev ∧ (s.handJoiningHello).mirror = s.mirror ∧
    (s.handJoiningHello).regions = s.regions ∧ (s.handJoiningHello).rings = s.rings ∧
    (s.handJoiningHello).cmd = s.cmd ∧ (s.handJoiningHello).stream = s.stream ∧ (s.handJoiningHello).sweep = s.sweep ∧
    (s.handJoiningHello).link = s.link ∧ (s.handJoiningHello).watch = s.watch ∧ (s.handJoiningHello).notif = s.notif ∧
    (s.handJoiningHello).pinLinkAct = s.pinLinkAct ∧ (s.handJoiningHello).hostMem = s.hostMem ∧
    (s.handJoiningHello).emitted = s.emitted ∧ (s.handJoiningHello).choices = s.choices ∧
    (s.handJoiningHello).pending = s.pending :=
  ⟨rfl, rfl, rfl, rfl, rfl, rfl, rfl, rfl, rfl, rfl, rfl, rfl, rfl, rfl, rfl⟩

@[simp] theorem State.handConfirmingHello_frame (s : State) :
    (s.handConfirmingHello).dev = s.dev ∧ (s.handConfirmingHello).mirror = s.mirror ∧
    (s.handConfirmingHello).regions = s.regions ∧ (s.handConfirmingHello).rings = s.rings ∧
    (s.handConfirmingHello).cmd = s.cmd ∧ (s.handConfirmingHello).stream = s.stream ∧
    (s.handConfirmingHello).sweep = s.sweep ∧ (s.handConfirmingHello).link = s.link ∧
    (s.handConfirmingHello).watch = s.watch ∧ (s.handConfirmingHello).notif = s.notif ∧
    (s.handConfirmingHello).pinLinkAct = s.pinLinkAct ∧ (s.handConfirmingHello).hostMem = s.hostMem ∧
    (s.handConfirmingHello).emitted = s.emitted ∧ (s.handConfirmingHello).choices = s.choices ∧
    (s.handConfirmingHello).pending = s.pending :=
  ⟨rfl, rfl, rfl, rfl, rfl, rfl, rfl, rfl, rfl, rfl, rfl, rfl, rfl, rfl, rfl⟩

@[simp] theorem State.restartHello_frame (s : State) :
    (s.restartHello).dev = s.dev ∧ (s.restartHello).mirror = s.mirror ∧ (s.restartHello).regions = s.regions ∧
    (s.restartHello).rings = s.rings ∧ (s.restartHello).cmd = s.cmd ∧ (s.restartHello).stream = s.stream ∧
    (s.restartHello).sweep = s.sweep ∧ (s.restartHello).framer = s.framer ∧ (s.restartHello).watch = s.watch ∧
    (s.restartHello).notif = s.notif ∧ (s.restartHello).pinLinkAct = s.pinLinkAct ∧
    (s.restartHello).hostMem = s.hostMem ∧ (s.restartHello).emitted = s.emitted ∧
    (s.restartHello).choices = s.choices ∧ (s.restartHello).pending = s.pending :=
  ⟨rfl, rfl, rfl, rfl, rfl, rfl, rfl, rfl, rfl, rfl, rfl, rfl, rfl, rfl, rfl⟩

@[simp] theorem State.restartSilence_frame (s : State) :
    (s.restartSilence).dev = s.dev ∧ (s.restartSilence).mirror = s.mirror ∧ (s.restartSilence).regions = s.regions ∧
    (s.restartSilence).rings = s.rings ∧ (s.restartSilence).cmd = s.cmd ∧ (s.restartSilence).stream = s.stream ∧
    (s.restartSilence).sweep = s.sweep ∧ (s.restartSilence).framer = s.framer ∧ (s.restartSilence).watch = s.watch ∧
    (s.restartSilence).notif = s.notif ∧ (s.restartSilence).pinLinkAct = s.pinLinkAct ∧
    (s.restartSilence).hostMem = s.hostMem ∧ (s.restartSilence).emitted = s.emitted ∧
    (s.restartSilence).choices = s.choices ∧ (s.restartSilence).pending = s.pending :=
  ⟨rfl, rfl, rfl, rfl, rfl, rfl, rfl, rfl, rfl, rfl, rfl, rfl, rfl, rfl, rfl⟩

@[simp] theorem State.enterSeeking_frame (s : State) :
    (s.enterSeeking).dev = s.dev ∧ (s.enterSeeking).mirror = s.mirror ∧ (s.enterSeeking).regions = s.regions ∧
    (s.enterSeeking).rings = s.rings ∧ (s.enterSeeking).cmd = s.cmd ∧ (s.enterSeeking).stream = s.stream ∧
    (s.enterSeeking).sweep = s.sweep ∧ (s.enterSeeking).watch = s.watch ∧ (s.enterSeeking).notif = s.notif ∧
    (s.enterSeeking).pinLinkAct = s.pinLinkAct ∧ (s.enterSeeking).hostMem = s.hostMem ∧
    (s.enterSeeking).emitted = s.emitted ∧ (s.enterSeeking).choices = s.choices ∧ (s.enterSeeking).pending = s.pending :=
  ⟨rfl, rfl, rfl, rfl, rfl, rfl, rfl, rfl, rfl, rfl, rfl, rfl, rfl, rfl⟩

@[simp] theorem State.enterRejected_frame (s : State) (x : RejectReason) :
    (s.enterRejected x).dev = s.dev ∧ (s.enterRejected x).mirror = s.mirror ∧
    (s.enterRejected x).regions = s.regions ∧ (s.enterRejected x).rings = s.rings ∧ (s.enterRejected x).cmd = s.cmd ∧
    (s.enterRejected x).stream = s.stream ∧ (s.enterRejected x).sweep = s.sweep ∧
    (s.enterRejected x).watch = s.watch ∧ (s.enterRejected x).pinLinkAct = s.pinLinkAct ∧
    (s.enterRejected x).hostMem = s.hostMem ∧ (s.enterRejected x).emitted = s.emitted ∧
    (s.enterRejected x).choices = s.choices ∧ (s.enterRejected x).pending = s.pending :=
  ⟨rfl, rfl, rfl, rfl, rfl, rfl, rfl, rfl, rfl, rfl, rfl, rfl, rfl⟩

@[simp] theorem State.enterJoining_frame (s : State) (ep : BitVec 16) (h : HelloBody) :
    (s.enterJoining ep h).dev = s.dev ∧ (s.enterJoining ep h).mirror = s.mirror ∧
    (s.enterJoining ep h).regions = s.regions ∧ (s.enterJoining ep h).rings = s.rings ∧
    (s.enterJoining ep h).cmd = s.cmd ∧ (s.enterJoining ep h).stream = s.stream ∧
    (s.enterJoining ep h).sweep = s.sweep ∧ (s.enterJoining ep h).watch = s.watch ∧
    (s.enterJoining ep h).notif = s.notif ∧ (s.enterJoining ep h).pinLinkAct = s.pinLinkAct ∧
    (s.enterJoining ep h).hostMem = s.hostMem ∧ (s.enterJoining ep h).emitted = s.emitted ∧
    (s.enterJoining ep h).choices = s.choices ∧ (s.enterJoining ep h).pending = s.pending :=
  ⟨rfl, rfl, rfl, rfl, rfl, rfl, rfl, rfl, rfl, rfl, rfl, rfl, rfl, rfl⟩

@[simp] theorem State.tryUp_frame (s : State) :
    (s.tryUp).dev = s.dev ∧ (s.tryUp).mirror = s.mirror ∧ (s.tryUp).regions = s.regions ∧ (s.tryUp).rings = s.rings ∧
    (s.tryUp).cmd = s.cmd ∧ (s.tryUp).stream = s.stream ∧ (s.tryUp).sweep = s.sweep ∧ (s.tryUp).framer = s.framer ∧
    (s.tryUp).watch = s.watch ∧ (s.tryUp).pinLinkAct = s.pinLinkAct ∧ (s.tryUp).hostMem = s.hostMem ∧
    (s.tryUp).emitted = s.emitted ∧ (s.tryUp).choices = s.choices ∧ (s.tryUp).pending = s.pending :=
  by
  unfold State.tryUp; split <;> simp

@[simp] theorem State.grantAcknowledged_frame (s : State) (r : Fin 64) :
    (s.grantAcknowledged r).dev = s.dev ∧ (s.grantAcknowledged r).mirror = s.mirror ∧
    (s.grantAcknowledged r).stream = s.stream ∧ (s.grantAcknowledged r).sweep = s.sweep ∧
    (s.grantAcknowledged r).link = s.link ∧ (s.grantAcknowledged r).framer = s.framer ∧
    (s.grantAcknowledged r).watch = s.watch ∧ (s.grantAcknowledged r).notif = s.notif ∧
    (s.grantAcknowledged r).pinLinkAct = s.pinLinkAct ∧ (s.grantAcknowledged r).hostMem = s.hostMem ∧
    (s.grantAcknowledged r).emitted = s.emitted ∧ (s.grantAcknowledged r).choices = s.choices ∧
    (s.grantAcknowledged r).pending = s.pending :=
  by
  unfold State.grantAcknowledged; repeat' split
  all_goals simp

@[simp] theorem State.completeWrite_frame (s : State) (i : Fin 32) (st : Status) :
    (s.completeWrite i st).dev = s.dev ∧ (s.completeWrite i st).mirror = s.mirror ∧
    (s.completeWrite i st).regions = s.regions ∧ (s.completeWrite i st).stream = s.stream ∧
    (s.completeWrite i st).sweep = s.sweep ∧ (s.completeWrite i st).link = s.link ∧
    (s.completeWrite i st).framer = s.framer ∧ (s.completeWrite i st).watch = s.watch ∧
    (s.completeWrite i st).notif = s.notif ∧ (s.completeWrite i st).pinLinkAct = s.pinLinkAct ∧
    (s.completeWrite i st).hostMem = s.hostMem ∧ (s.completeWrite i st).emitted = s.emitted ∧
    (s.completeWrite i st).choices = s.choices ∧ (s.completeWrite i st).pending = s.pending :=
  by
  unfold State.completeWrite; repeat' split
  all_goals simp

@[simp] theorem State.hostWritten_frame (s : State) (a : Addr) (d : List Byte) :
    (s.hostWritten a d).dev = s.dev ∧ (s.hostWritten a d).mirror = s.mirror ∧
    (s.hostWritten a d).regions = s.regions ∧ (s.hostWritten a d).rings = s.rings ∧ (s.hostWritten a d).cmd = s.cmd ∧
    (s.hostWritten a d).stream = s.stream ∧ (s.hostWritten a d).sweep = s.sweep ∧ (s.hostWritten a d).link = s.link ∧
    (s.hostWritten a d).framer = s.framer ∧ (s.hostWritten a d).watch = s.watch ∧
    (s.hostWritten a d).notif = s.notif ∧ (s.hostWritten a d).pinLinkAct = s.pinLinkAct ∧
    (s.hostWritten a d).choices = s.choices ∧ (s.hostWritten a d).pending = s.pending :=
  ⟨rfl, rfl, rfl, rfl, rfl, rfl, rfl, rfl, rfl, rfl, rfl, rfl, rfl, rfl⟩

@[simp] theorem State.dropRequests_frame (s : State) :
    (s.dropRequests).dev = s.dev ∧ (s.dropRequests).mirror = s.mirror ∧ (s.dropRequests).rings = s.rings ∧
    (s.dropRequests).cmd = s.cmd ∧ (s.dropRequests).stream = s.stream ∧ (s.dropRequests).sweep = s.sweep ∧
    (s.dropRequests).link = s.link ∧ (s.dropRequests).framer = s.framer ∧ (s.dropRequests).watch = s.watch ∧
    (s.dropRequests).notif = s.notif ∧ (s.dropRequests).pinLinkAct = s.pinLinkAct ∧
    (s.dropRequests).hostMem = s.hostMem ∧ (s.dropRequests).emitted = s.emitted ∧
    (s.dropRequests).choices = s.choices ∧ (s.dropRequests).pending = s.pending :=
  by
  simp [State.dropRequests]

@[simp] theorem State.stopSweep_frame (s : State) :
    (s.stopSweep).dev = s.dev ∧ (s.stopSweep).mirror = s.mirror ∧ (s.stopSweep).rings = s.rings ∧
    (s.stopSweep).cmd = s.cmd ∧ (s.stopSweep).stream = s.stream ∧ (s.stopSweep).link = s.link ∧
    (s.stopSweep).framer = s.framer ∧ (s.stopSweep).watch = s.watch ∧ (s.stopSweep).notif = s.notif ∧
    (s.stopSweep).pinLinkAct = s.pinLinkAct ∧ (s.stopSweep).hostMem = s.hostMem ∧ (s.stopSweep).emitted = s.emitted ∧
    (s.stopSweep).choices = s.choices ∧ (s.stopSweep).pending = s.pending :=
  by
  simp [State.stopSweep]

@[simp] theorem State.dropSession_frame (s : State) (x : LossReason) :
    (s.dropSession x).mirror = s.mirror ∧ (s.dropSession x).regions = s.regions ∧ (s.dropSession x).rings = s.rings ∧
    (s.dropSession x).cmd = s.cmd ∧ (s.dropSession x).stream = s.stream ∧ (s.dropSession x).sweep = s.sweep ∧
    (s.dropSession x).watch = s.watch ∧ (s.dropSession x).notif = s.notif ∧
    (s.dropSession x).pinLinkAct = s.pinLinkAct ∧ (s.dropSession x).hostMem = s.hostMem ∧
    (s.dropSession x).emitted = s.emitted ∧ (s.dropSession x).choices = s.choices ∧
    (s.dropSession x).pending = s.pending :=
  ⟨rfl, rfl, rfl, rfl, rfl, rfl, rfl, rfl, rfl, rfl, rfl, rfl, rfl⟩

@[simp] theorem State.beginSession_frame (s : State) :
    (s.beginSession).dev = s.dev ∧ (s.beginSession).mirror = s.mirror ∧ (s.beginSession).regions = s.regions ∧
    (s.beginSession).rings = s.rings ∧ (s.beginSession).cmd = s.cmd ∧ (s.beginSession).sweep = s.sweep ∧
    (s.beginSession).link = s.link ∧ (s.beginSession).framer = s.framer ∧ (s.beginSession).watch = s.watch ∧
    (s.beginSession).notif = s.notif ∧ (s.beginSession).pinLinkAct = s.pinLinkAct ∧
    (s.beginSession).hostMem = s.hostMem ∧ (s.beginSession).emitted = s.emitted ∧
    (s.beginSession).choices = s.choices ∧ (s.beginSession).pending = s.pending :=
  ⟨rfl, rfl, rfl, rfl, rfl, rfl, rfl, rfl, rfl, rfl, rfl, rfl, rfl, rfl, rfl⟩

@[simp] theorem State.transmit_frame (s : State) (ep : BitVec 16) (b : FrameBody) :
    (s.transmit ep b).mirror = s.mirror ∧ (s.transmit ep b).regions = s.regions ∧ (s.transmit ep b).rings = s.rings ∧
    (s.transmit ep b).cmd = s.cmd ∧ (s.transmit ep b).stream = s.stream ∧ (s.transmit ep b).sweep = s.sweep ∧
    (s.transmit ep b).link = s.link ∧ (s.transmit ep b).watch = s.watch ∧ (s.transmit ep b).notif = s.notif ∧
    (s.transmit ep b).hostMem = s.hostMem ∧ (s.transmit ep b).emitted = s.emitted ∧
    (s.transmit ep b).choices = s.choices ∧ (s.transmit ep b).pending = s.pending :=
  ⟨rfl, rfl, rfl, rfl, rfl, rfl, rfl, rfl, rfl, rfl, rfl, rfl, rfl⟩

@[simp] theorem State.noSweep_frame (s : State) :
    (s.noSweep).dev = s.dev ∧ (s.noSweep).mirror = s.mirror ∧ (s.noSweep).regions = s.regions ∧
    (s.noSweep).rings = s.rings ∧ (s.noSweep).cmd = s.cmd ∧ (s.noSweep).stream = s.stream ∧
    (s.noSweep).link = s.link ∧ (s.noSweep).watch = s.watch ∧ (s.noSweep).notif = s.notif ∧
    (s.noSweep).pinLinkAct = s.pinLinkAct ∧ (s.noSweep).hostMem = s.hostMem ∧ (s.noSweep).emitted = s.emitted ∧
    (s.noSweep).choices = s.choices ∧ (s.noSweep).pending = s.pending :=
  ⟨rfl, rfl, rfl, rfl, rfl, rfl, rfl, rfl, rfl, rfl, rfl, rfl, rfl, rfl⟩

@[simp] theorem State.offerSnapshot_frame (s : State) (r : Fin 64) :
    (s.offerSnapshot r).dev = s.dev ∧ (s.offerSnapshot r).mirror = s.mirror ∧
    (s.offerSnapshot r).regions = s.regions ∧ (s.offerSnapshot r).rings = s.rings ∧ (s.offerSnapshot r).cmd = s.cmd ∧
    (s.offerSnapshot r).stream = s.stream ∧ (s.offerSnapshot r).link = s.link ∧
    (s.offerSnapshot r).framer = s.framer ∧ (s.offerSnapshot r).watch = s.watch ∧
    (s.offerSnapshot r).notif = s.notif ∧ (s.offerSnapshot r).pinLinkAct = s.pinLinkAct ∧
    (s.offerSnapshot r).hostMem = s.hostMem ∧ (s.offerSnapshot r).emitted = s.emitted ∧
    (s.offerSnapshot r).choices = s.choices ∧ (s.offerSnapshot r).pending = s.pending :=
  ⟨rfl, rfl, rfl, rfl, rfl, rfl, rfl, rfl, rfl, rfl, rfl, rfl, rfl, rfl, rfl⟩

@[simp] theorem State.startSweep_frame (s : State) :
    (s.startSweep).dev = s.dev ∧ (s.startSweep).mirror = s.mirror ∧ (s.startSweep).regions = s.regions ∧
    (s.startSweep).rings = s.rings ∧ (s.startSweep).cmd = s.cmd ∧ (s.startSweep).stream = s.stream ∧
    (s.startSweep).link = s.link ∧ (s.startSweep).watch = s.watch ∧ (s.startSweep).notif = s.notif ∧
    (s.startSweep).pinLinkAct = s.pinLinkAct ∧ (s.startSweep).hostMem = s.hostMem ∧
    (s.startSweep).emitted = s.emitted ∧ (s.startSweep).choices = s.choices ∧ (s.startSweep).pending = s.pending :=
  by
  unfold State.startSweep; repeat' split
  all_goals simp

@[simp] theorem State.endSweep_frame (s : State) :
    (s.endSweep).dev = s.dev ∧ (s.endSweep).mirror = s.mirror ∧ (s.endSweep).regions = s.regions ∧
    (s.endSweep).rings = s.rings ∧ (s.endSweep).cmd = s.cmd ∧ (s.endSweep).stream = s.stream ∧
    (s.endSweep).link = s.link ∧ (s.endSweep).watch = s.watch ∧ (s.endSweep).notif = s.notif ∧
    (s.endSweep).pinLinkAct = s.pinLinkAct ∧ (s.endSweep).hostMem = s.hostMem ∧ (s.endSweep).emitted = s.emitted ∧
    (s.endSweep).choices = s.choices ∧ (s.endSweep).pending = s.pending :=
  by
  unfold State.endSweep; repeat' split
  all_goals simp

@[simp] theorem State.sweepOn_frame (s : State) (r : Fin 64) :
    (s.sweepOn r).dev = s.dev ∧ (s.sweepOn r).mirror = s.mirror ∧ (s.sweepOn r).regions = s.regions ∧
    (s.sweepOn r).rings = s.rings ∧ (s.sweepOn r).cmd = s.cmd ∧ (s.sweepOn r).stream = s.stream ∧
    (s.sweepOn r).link = s.link ∧ (s.sweepOn r).watch = s.watch ∧ (s.sweepOn r).notif = s.notif ∧
    (s.sweepOn r).pinLinkAct = s.pinLinkAct ∧ (s.sweepOn r).hostMem = s.hostMem ∧ (s.sweepOn r).emitted = s.emitted ∧
    (s.sweepOn r).choices = s.choices ∧ (s.sweepOn r).pending = s.pending :=
  by
  unfold State.sweepOn; repeat' split
  all_goals simp

@[simp] theorem State.haltIfReported_frame (s : State) :
    (s.haltIfReported).mirror = s.mirror ∧ (s.haltIfReported).regions = s.regions ∧
    (s.haltIfReported).rings = s.rings ∧ (s.haltIfReported).cmd = s.cmd ∧ (s.haltIfReported).stream = s.stream ∧
    (s.haltIfReported).sweep = s.sweep ∧ (s.haltIfReported).link = s.link ∧ (s.haltIfReported).framer = s.framer ∧
    (s.haltIfReported).watch = s.watch ∧ (s.haltIfReported).notif = s.notif ∧
    (s.haltIfReported).pinLinkAct = s.pinLinkAct ∧ (s.haltIfReported).hostMem = s.hostMem ∧
    (s.haltIfReported).emitted = s.emitted ∧ (s.haltIfReported).choices = s.choices ∧
    (s.haltIfReported).pending = s.pending :=
  by
  unfold State.haltIfReported; split <;> simp

@[simp] theorem State.produceRecord_frame (s : State) (x : Submission) :
    (s.produceRecord x).dev = s.dev ∧ (s.produceRecord x).mirror = s.mirror ∧
    (s.produceRecord x).regions = s.regions ∧ (s.produceRecord x).rings = s.rings ∧ (s.produceRecord x).cmd = s.cmd ∧
    (s.produceRecord x).stream = s.stream ∧ (s.produceRecord x).sweep = s.sweep ∧ (s.produceRecord x).link = s.link ∧
    (s.produceRecord x).framer = s.framer ∧ (s.produceRecord x).watch = s.watch ∧
    (s.produceRecord x).pinLinkAct = s.pinLinkAct ∧ (s.produceRecord x).hostMem = s.hostMem ∧
    (s.produceRecord x).emitted = s.emitted ∧ (s.produceRecord x).choices = s.choices ∧
    (s.produceRecord x).pending = s.pending :=
  ⟨rfl, rfl, rfl, rfl, rfl, rfl, rfl, rfl, rfl, rfl, rfl, rfl, rfl, rfl, rfl⟩

@[simp] theorem State.loseRecord_frame (s : State) :
    (s.loseRecord).mirror = s.mirror ∧ (s.loseRecord).regions = s.regions ∧ (s.loseRecord).rings = s.rings ∧
    (s.loseRecord).cmd = s.cmd ∧ (s.loseRecord).stream = s.stream ∧ (s.loseRecord).sweep = s.sweep ∧
    (s.loseRecord).link = s.link ∧ (s.loseRecord).framer = s.framer ∧ (s.loseRecord).watch = s.watch ∧
    (s.loseRecord).pinLinkAct = s.pinLinkAct ∧ (s.loseRecord).hostMem = s.hostMem ∧
    (s.loseRecord).emitted = s.emitted ∧ (s.loseRecord).choices = s.choices ∧ (s.loseRecord).pending = s.pending :=
  ⟨rfl, rfl, rfl, rfl, rfl, rfl, rfl, rfl, rfl, rfl, rfl, rfl, rfl, rfl⟩

@[simp] theorem State.freeEntry_frame (s : State) (i : Option (Fin 32)) :
    (s.freeEntry i).dev = s.dev ∧ (s.freeEntry i).mirror = s.mirror ∧ (s.freeEntry i).regions = s.regions ∧
    (s.freeEntry i).stream = s.stream ∧ (s.freeEntry i).sweep = s.sweep ∧ (s.freeEntry i).link = s.link ∧
    (s.freeEntry i).framer = s.framer ∧ (s.freeEntry i).watch = s.watch ∧ (s.freeEntry i).notif = s.notif ∧
    (s.freeEntry i).pinLinkAct = s.pinLinkAct ∧ (s.freeEntry i).hostMem = s.hostMem ∧
    (s.freeEntry i).emitted = s.emitted ∧ (s.freeEntry i).choices = s.choices ∧ (s.freeEntry i).pending = s.pending :=
  by
  cases i <;> simp [State.freeEntry]

@[simp] theorem State.takeRecord_frame (s : State) (ring : Ring) :
    (s.takeRecord ring).dev = s.dev ∧ (s.takeRecord ring).mirror = s.mirror ∧
    (s.takeRecord ring).regions = s.regions ∧ (s.takeRecord ring).cmd = s.cmd ∧
    (s.takeRecord ring).stream = s.stream ∧ (s.takeRecord ring).sweep = s.sweep ∧ (s.takeRecord ring).link = s.link ∧
    (s.takeRecord ring).framer = s.framer ∧ (s.takeRecord ring).watch = s.watch ∧
    (s.takeRecord ring).notif = s.notif ∧ (s.takeRecord ring).pinLinkAct = s.pinLinkAct ∧
    (s.takeRecord ring).hostMem = s.hostMem ∧ (s.takeRecord ring).choices = s.choices ∧
    (s.takeRecord ring).pending = s.pending :=
  by
  simp [State.takeRecord]

end Sys2Proof.Machine
end

