-- ==== Sys2Proof/Laws/HostMemory.lean ====
section
/-! SUPPORT. Host memory: every DMA write keeps its canonical form, and a read finds what the latest write left. -/

namespace Sys2Proof.Machine

theorem HostMemory.risesFrom_mono {m : HostMemory} {low high : Nat} (h : low ≤ high)
    (hm : HostMemory.risesFrom high m = true) : HostMemory.risesFrom low m = true := by
  cases m with
  | nil => rfl
  | cons c rest =>
    simp only [HostMemory.risesFrom, Bool.and_eq_true, decide_eq_true_eq] at hm ⊢; exact ⟨by omega, hm.2⟩

theorem HostMemory.risesFrom_write (m : HostMemory) (a : Nat) (x : Byte) (low : Nat)
    (h : HostMemory.risesFrom low m = true) (ha : low ≤ a) : HostMemory.risesFrom low (m.write a x) = true := by
  induction m generalizing low with
  | nil => simp [HostMemory.write, HostMemory.risesFrom, ha]
  | cons c rest ih =>
    obtain ⟨b, y⟩ := c
    simp only [HostMemory.risesFrom, Bool.and_eq_true, decide_eq_true_eq] at h
    unfold HostMemory.write
    split
    · simp only [HostMemory.risesFrom, Bool.and_eq_true, decide_eq_true_eq]; exact ⟨ha, by omega, h.2⟩
    · split
      · subst_vars; simp [HostMemory.risesFrom, h.1, h.2]
      · simp only [HostMemory.risesFrom, Bool.and_eq_true, decide_eq_true_eq]; exact ⟨h.1, ih _ h.2 (by omega)⟩

theorem HostMemory.mem_write {m : HostMemory} {a : Nat} {x : Byte} {c : Host.Cell} (h : c ∈ m.write a x) :
    c ∈ m ∨ c = (a, x) := by
  induction m with
  | nil => right; simpa [HostMemory.write] using h
  | cons d rest ih =>
    obtain ⟨b, y⟩ := d
    unfold HostMemory.write at h
    split at h
    · rcases List.mem_cons.1 h with rfl | h
      · right; rfl
      · left; exact h
    · split at h
      · rcases List.mem_cons.1 h with rfl | h
        · right; rfl
        · left; exact List.mem_cons_of_mem _ h
      · rcases List.mem_cons.1 h with rfl | h
        · left; exact List.mem_cons_self
        · rcases ih h with h | h
          · left; exact List.mem_cons_of_mem _ h
          · right; exact h

/-- Replacing one byte keeps the canonical form. -/
theorem HostMemory.wf_write {m : HostMemory} (h : m.wf = true) {a : Nat} (ha : a < 2 ^ 64) (x : Byte) :
    (m.write a x).wf = true := by
  simp only [HostMemory.wf, Bool.and_eq_true, List.all_eq_true, decide_eq_true_eq] at h ⊢
  refine ⟨HostMemory.risesFrom_write m a x 0 h.1 (Nat.zero_le _), fun c hc => ?_⟩
  rcases HostMemory.mem_write hc with hc | rfl
  · exact h.2 c hc
  · exact ha

/-- A DMA write keeps the canonical form. -/
theorem HostMemory.wf_store {m : HostMemory} (h : m.wf = true) (a : Addr) (data : List Byte) :
    (m.store a data).wf = true := by
  induction data generalizing m a with
  | nil => exact h
  | cons x rest ih => exact ih (HostMemory.wf_write h a.isLt x) _

theorem State.hostWritten_wf {s : State} (h : s.hostMem.wf = true) (a : Addr) (data : List Byte) :
    (s.hostWritten a data).hostMem.wf = true :=
  HostMemory.wf_store h a data

/-- The reset state's host memory has the canonical form. -/
theorem State.reset_hostMem_wf : State.reset.hostMem.wf = true := rfl

/-- The byte at an address after one byte is replaced; the form is not needed. -/
theorem HostMemory.read_write (m : HostMemory) (a b : Nat) (x : Byte) :
    (m.write a x).read b = if b = a then some x else m.read b := by
  induction m with
  | nil => simp [HostMemory.write, HostMemory.read]
  | cons c rest ih =>
    obtain ⟨d, y⟩ := c
    unfold HostMemory.write
    split
    · simp only [HostMemory.read]
    · split
      · subst_vars; simp only [HostMemory.read]; split <;> simp_all
      · simp only [HostMemory.read, ih]; split
        · rename_i h1 h2 h3; subst h3; rw [if_neg (by omega)]
        · rfl

/-- A DMA write leaves every byte outside its range as it was. -/
theorem HostMemory.read_store_other (m : HostMemory) (a : Addr) (data : List Byte) (b : Nat)
    (h : ∀ k, k < data.length → (a + BitVec.ofNat 64 k).toNat ≠ b) : (m.store a data).read b = m.read b := by
  induction data generalizing m a with
  | nil => rfl
  | cons x rest ih =>
    have h0 : a.toNat ≠ b := by simpa using h 0 (by simp)
    rw [HostMemory.store, ih, HostMemory.read_write, if_neg (Ne.symm h0)]
    intro k hk
    have := h (k + 1) (by simpa using hk)
    rwa [show a + BitVec.ofNat 64 (k + 1) = a + 1 + BitVec.ofNat 64 k by
      rw [BitVec.add_assoc]; congr 1; apply BitVec.eq_of_toNat_eq; simp [BitVec.toNat_add]; omega] at this

/-- A DMA write of at most 2^64 bytes is found whole by a read that finds nothing of the host's. -/
theorem HostMemory.read_store (m : HostMemory) (a : Addr) (data : List Byte) (h : data.length ≤ 2 ^ 64) (k : Nat)
    (hk : k < data.length) : (m.store a data).read (a + BitVec.ofNat 64 k).toNat = data[k]? := by
  induction data generalizing m a k with
  | nil => simp at hk
  | cons x rest ih =>
    have step : ∀ j : Nat, a + BitVec.ofNat 64 (j + 1) = a + 1 + BitVec.ofNat 64 j := by
      intro j; rw [BitVec.add_assoc]; congr 1; apply BitVec.eq_of_toNat_eq; simp [BitVec.toNat_add]; omega
    rw [HostMemory.store]
    cases k with
    | zero =>
      rw [HostMemory.read_store_other]
      · simp [HostMemory.read_write]
      · intro j hj heq
        have h1 : (a + BitVec.ofNat 64 0) = a := by simp
        rw [h1, ← step j] at heq
        simp only [List.length_cons] at h
        rw [BitVec.toNat_add, BitVec.toNat_ofNat] at heq
        have ha := a.isLt
        omega
    | succ j =>
      rw [step j, ih _ _ (by simp at h; omega) _ (by simpa using hk)]
      simp

@[simp] theorem HostMemory.length_load (m : HostMemory) (a : Addr) (found : List FoundByte) :
    (m.load a found).length = found.length := by
  induction found generalizing a with
  | nil => rfl
  | cons x rest ih => simp [HostMemory.load, ih]

/-- Each byte that a DMA read takes. -/
theorem HostMemory.getElem?_load (m : HostMemory) (a : Addr) (found : List FoundByte) (k : Nat) :
    (m.load a found)[k]? = found[k]?.map (m.take (a + BitVec.ofNat 64 k).toNat) := by
  induction found generalizing a k with
  | nil => simp [HostMemory.load]
  | cons x rest ih =>
    cases k with
    | zero => simp [HostMemory.load]
    | succ j =>
      simp only [HostMemory.load, List.getElem?_cons_succ, ih]
      rw [show a + BitVec.ofNat 64 (j + 1) = a + 1 + BitVec.ofNat 64 j by
        rw [BitVec.add_assoc]; congr 1; apply BitVec.eq_of_toNat_eq; simp [BitVec.toNat_add]; omega]

/-- Where the read finds every byte named, it takes those bytes. -/
theorem HostMemory.load_named (m : HostMemory) (a : Addr) (data : List Byte) :
    m.load a (data.map some) = data := by
  induction data generalizing a with
  | nil => rfl
  | cons x rest ih => simp [HostMemory.load, HostMemory.take, ih]

end Sys2Proof.Machine
end

