-- ==== Sys2Proof/Laws/Mirror.lean ====
section
/-! SUPPORT. The mirror: every operation keeps its canonical form, and reads give back what writes stored. -/

namespace Sys2Proof.Machine

/-- The form as a statement about entries: rising addresses from `low` on, none blank. -/
theorem Mirror.risesFrom_mono {m : Mirror} {low high : Nat} (h : low ≤ high) (hm : Mirror.risesFrom high m = true) :
    Mirror.risesFrom low m = true := by
  cases m with
  | nil => rfl
  | cons c rest => simp only [Mirror.risesFrom, Bool.and_eq_true, decide_eq_true_eq] at hm ⊢; exact ⟨by omega, hm.2⟩

theorem Mirror.risesFrom_write (m : Mirror) (a : Nat) (w : MirrorWord) (low : Nat) (h : Mirror.risesFrom low m = true)
    (ha : low ≤ a) : Mirror.risesFrom low (m.write a w) = true := by
  induction m generalizing low with
  | nil => unfold Mirror.write; split <;> simp [Mirror.risesFrom, ha]
  | cons c rest ih =>
    obtain ⟨b, x⟩ := c
    simp only [Mirror.risesFrom, Bool.and_eq_true, decide_eq_true_eq] at h
    unfold Mirror.write
    split
    · split
      · simp [Mirror.risesFrom, h.1, h.2]
      · simp only [Mirror.risesFrom, Bool.and_eq_true, decide_eq_true_eq]
        exact ⟨ha, by omega, h.2⟩
    · split
      · subst_vars
        split
        · exact Mirror.risesFrom_mono (by omega) h.2
        · simp [Mirror.risesFrom, h.1, h.2]
      · simp only [Mirror.risesFrom, Bool.and_eq_true, decide_eq_true_eq]
        exact ⟨h.1, ih _ h.2 (by omega)⟩

theorem Mirror.mem_write {m : Mirror} {a : Nat} {w : MirrorWord} {c : Nat × MirrorWord} (h : c ∈ m.write a w) :
    c ∈ m ∨ c = (a, w) ∧ w ≠ .blank := by
  induction m with
  | nil =>
    unfold Mirror.write at h; split at h
    · simp at h
    · rename_i hw; right; simpa [hw] using h
  | cons d rest ih =>
    obtain ⟨b, x⟩ := d
    unfold Mirror.write at h
    split at h
    · split at h
      · left; exact h
      · rename_i hw
        rcases List.mem_cons.1 h with rfl | h
        · right; exact ⟨rfl, hw⟩
        · left; exact h
    · split at h
      · split at h
        · left; exact List.mem_cons_of_mem _ h
        · rename_i hw
          rcases List.mem_cons.1 h with rfl | h
          · right; exact ⟨rfl, hw⟩
          · left; exact List.mem_cons_of_mem _ h
      · rcases List.mem_cons.1 h with rfl | h
        · left; exact List.mem_cons_self
        · rcases ih h with h | h
          · left; exact List.mem_cons_of_mem _ h
          · right; exact h

/-- Writing one word keeps the canonical form. -/
theorem Mirror.wf_write {m : Mirror} (h : m.wf = true) {a : Nat} (ha : a < mirrorSize) (w : MirrorWord) :
    (m.write a w).wf = true := by
  simp only [Mirror.wf, Bool.and_eq_true, List.all_eq_true, decide_eq_true_eq] at h ⊢
  refine ⟨Mirror.risesFrom_write m a w 0 h.1 (Nat.zero_le _), fun c hc => ?_⟩
  rcases Mirror.mem_write hc with hc | ⟨rfl, hw⟩
  · exact h.2 c hc
  · exact ⟨ha, hw⟩

/-- Writing a range keeps the canonical form. -/
theorem Mirror.wf_writeRange {m : Mirror} (h : m.wf = true) (a : Nat) (words : List Word) :
    (m.writeRange a words).wf = true := by
  induction words generalizing m a with
  | nil => exact h
  | cons v rest ih =>
    unfold Mirror.writeRange
    apply ih
    split
    · exact Mirror.wf_write h ‹_› _
    · exact h

/-- An apply keeps the canonical form. -/
theorem State.apply_mirror_wf {s : State} (h : s.mirror.wf = true) (r : Fin 64) (o : Nat) (words : List Word)
    (src : ApplySource) : (s.apply r o words src).mirror.wf = true :=
  Mirror.wf_writeRange h _ words

/-- The reset state's mirror has the canonical form. -/
theorem State.reset_mirror_wf : State.reset.mirror.wf = true := rfl

theorem Mirror.read_of_lt {m : Mirror} {low a : Nat} (h : Mirror.risesFrom low m = true) (ha : a < low) :
    m.read a = .blank := by
  induction m generalizing low with
  | nil => rfl
  | cons c rest ih =>
    obtain ⟨b, x⟩ := c
    simp only [Mirror.risesFrom, Bool.and_eq_true, decide_eq_true_eq] at h
    unfold Mirror.read
    rw [if_neg (by omega), ih h.2 (by omega)]

theorem Mirror.read_write_aux (m : Mirror) (low a b : Nat) (w : MirrorWord) (h : Mirror.risesFrom low m = true) :
    (m.write a w).read b = if b = a then w else m.read b := by
  induction m generalizing low with
  | nil => unfold Mirror.write; split <;> simp_all [Mirror.read]
  | cons c rest ih =>
    obtain ⟨d, x⟩ := c
    simp only [Mirror.risesFrom, Bool.and_eq_true, decide_eq_true_eq] at h
    unfold Mirror.write
    split
    · split
      · rename_i hlt hw
        by_cases hb : b = a
        · subst hb
          have : Mirror.read rest b = .blank := Mirror.read_of_lt h.2 (by omega)
          simp [Mirror.read, this, hw, show b ≠ d by omega]
        · simp [hb]
      · simp [Mirror.read]
    · split
      · subst_vars
        split
        · rename_i hw
          by_cases hb : b = d
          · subst hb
            have : Mirror.read rest b = .blank := Mirror.read_of_lt h.2 (by omega)
            simp [this, hw]
          · simp [Mirror.read, hb]
        · simp only [Mirror.read]; split <;> simp_all
      · simp only [Mirror.read, ih _ h.2]
        split
        · rename_i hb; subst hb; rw [if_neg (by omega)]
        · rfl

/-- Reading a word after a write: the word written at its address, every other word as it was. -/
theorem Mirror.read_write {m : Mirror} (h : m.wf = true) (a b : Nat) (w : MirrorWord) :
    (m.write a w).read b = if b = a then w else m.read b := by
  simp only [Mirror.wf, Bool.and_eq_true] at h
  exact Mirror.read_write_aux m 0 a b w h.1

end Sys2Proof.Machine
end

