-- ==== Sys2Proof/Laws/Paths.lean ====
section
/-! SUPPORT. What the operations built from folds, rounds and free orders leave alone. -/

namespace Sys2Proof.Machine

@[simp] theorem State.completeFence_frame (s : State) (st : Status) (i : Fin 32) :
    (State.completeFence st s i).dev = s.dev ∧ (State.completeFence st s i).mirror = s.mirror ∧
    (State.completeFence st s i).regions = s.regions ∧ (State.completeFence st s i).stream = s.stream ∧
    (State.completeFence st s i).sweep = s.sweep ∧ (State.completeFence st s i).link = s.link ∧
    (State.completeFence st s i).framer = s.framer ∧ (State.completeFence st s i).watch = s.watch ∧
    (State.completeFence st s i).notif = s.notif ∧ (State.completeFence st s i).pinLinkAct = s.pinLinkAct ∧
    (State.completeFence st s i).hostMem = s.hostMem ∧ (State.completeFence st s i).emitted = s.emitted ∧
    (State.completeFence st s i).choices = s.choices ∧ (State.completeFence st s i).pending = s.pending := by
  unfold State.completeFence; repeat' split
  all_goals simp

@[simp] theorem State.completeFence_fold_frame (st : Status) (l : List (Fin 32)) (s : State) :
    (l.foldl (State.completeFence st) s).dev = s.dev ∧ (l.foldl (State.completeFence st) s).mirror = s.mirror ∧
    (l.foldl (State.completeFence st) s).regions = s.regions ∧
    (l.foldl (State.completeFence st) s).stream = s.stream ∧ (l.foldl (State.completeFence st) s).sweep = s.sweep ∧
    (l.foldl (State.completeFence st) s).link = s.link ∧ (l.foldl (State.completeFence st) s).framer = s.framer ∧
    (l.foldl (State.completeFence st) s).watch = s.watch ∧ (l.foldl (State.completeFence st) s).notif = s.notif ∧
    (l.foldl (State.completeFence st) s).pinLinkAct = s.pinLinkAct ∧
    (l.foldl (State.completeFence st) s).hostMem = s.hostMem ∧
    (l.foldl (State.completeFence st) s).emitted = s.emitted ∧
    (l.foldl (State.completeFence st) s).choices = s.choices ∧
    (l.foldl (State.completeFence st) s).pending = s.pending := by
  induction l generalizing s with
  | nil => simp
  | cons a l ih => simp [ih]

@[simp] theorem State.completeFences_frame (s : State) (p : OctEntry → Bool) (st : Status) :
    (s.completeFences p st).dev = s.dev ∧ (s.completeFences p st).mirror = s.mirror ∧
    (s.completeFences p st).regions = s.regions ∧ (s.completeFences p st).stream = s.stream ∧
    (s.completeFences p st).sweep = s.sweep ∧ (s.completeFences p st).link = s.link ∧
    (s.completeFences p st).framer = s.framer ∧ (s.completeFences p st).watch = s.watch ∧
    (s.completeFences p st).notif = s.notif ∧ (s.completeFences p st).pinLinkAct = s.pinLinkAct ∧
    (s.completeFences p st).hostMem = s.hostMem ∧ (s.completeFences p st).emitted = s.emitted ∧
    (s.completeFences p st).pending = s.pending := by
  simp [State.completeFences]

@[simp] theorem State.frameDiscarded_frame (s : State) (f : TxEntry) :
    (s.frameDiscarded f).dev = s.dev ∧ (s.frameDiscarded f).mirror = s.mirror ∧
    (s.frameDiscarded f).regions = s.regions ∧ (s.frameDiscarded f).stream = s.stream ∧
    (s.frameDiscarded f).sweep = s.sweep ∧ (s.frameDiscarded f).link = s.link ∧
    (s.frameDiscarded f).framer = s.framer ∧ (s.frameDiscarded f).watch = s.watch ∧
    (s.frameDiscarded f).notif = s.notif ∧ (s.frameDiscarded f).pinLinkAct = s.pinLinkAct ∧
    (s.frameDiscarded f).hostMem = s.hostMem ∧ (s.frameDiscarded f).emitted = s.emitted ∧
    (s.frameDiscarded f).choices = s.choices ∧ (s.frameDiscarded f).pending = s.pending := by
  unfold State.frameDiscarded; repeat' split
  all_goals simp

@[simp] theorem State.frameDiscarded_fold_frame (l : List TxEntry) (s : State) :
    (l.foldl State.frameDiscarded s).dev = s.dev ∧ (l.foldl State.frameDiscarded s).mirror = s.mirror ∧
    (l.foldl State.frameDiscarded s).regions = s.regions ∧ (l.foldl State.frameDiscarded s).stream = s.stream ∧
    (l.foldl State.frameDiscarded s).sweep = s.sweep ∧ (l.foldl State.frameDiscarded s).link = s.link ∧
    (l.foldl State.frameDiscarded s).framer = s.framer ∧ (l.foldl State.frameDiscarded s).watch = s.watch ∧
    (l.foldl State.frameDiscarded s).notif = s.notif ∧ (l.foldl State.frameDiscarded s).pinLinkAct = s.pinLinkAct ∧
    (l.foldl State.frameDiscarded s).hostMem = s.hostMem ∧ (l.foldl State.frameDiscarded s).emitted = s.emitted ∧
    (l.foldl State.frameDiscarded s).choices = s.choices ∧ (l.foldl State.frameDiscarded s).pending = s.pending := by
  induction l generalizing s with
  | nil => simp
  | cons a l ih => simp [ih]

@[simp] theorem State.emptyStream_frame (s : State) :
    (s.emptyStream).dev = s.dev ∧ (s.emptyStream).mirror = s.mirror ∧ (s.emptyStream).regions = s.regions ∧
    (s.emptyStream).sweep = s.sweep ∧ (s.emptyStream).link = s.link ∧ (s.emptyStream).framer = s.framer ∧
    (s.emptyStream).watch = s.watch ∧ (s.emptyStream).notif = s.notif ∧ (s.emptyStream).pinLinkAct = s.pinLinkAct ∧
    (s.emptyStream).hostMem = s.hostMem ∧ (s.emptyStream).emitted = s.emitted ∧ (s.emptyStream).pending = s.pending := by
  simp [State.emptyStream]

@[simp] theorem State.settleCommand_frame (s : State) (c : Fin 64 × Fin 32 × Status) :
    (s.settleCommand c).dev = s.dev ∧ (s.settleCommand c).mirror = s.mirror ∧
    (s.settleCommand c).regions = s.regions ∧ (s.settleCommand c).stream = s.stream ∧
    (s.settleCommand c).sweep = s.sweep ∧ (s.settleCommand c).link = s.link ∧ (s.settleCommand c).framer = s.framer ∧
    (s.settleCommand c).watch = s.watch ∧ (s.settleCommand c).notif = s.notif ∧
    (s.settleCommand c).pinLinkAct = s.pinLinkAct ∧ (s.settleCommand c).hostMem = s.hostMem ∧
    (s.settleCommand c).emitted = s.emitted ∧ (s.settleCommand c).choices = s.choices ∧
    (s.settleCommand c).pending = s.pending := by
  simp [State.settleCommand]

@[simp] theorem State.settleCommand_fold_frame (l : List (Fin 64 × Fin 32 × Status)) (s : State) :
    (l.foldl State.settleCommand s).dev = s.dev ∧ (l.foldl State.settleCommand s).mirror = s.mirror ∧
    (l.foldl State.settleCommand s).regions = s.regions ∧ (l.foldl State.settleCommand s).stream = s.stream ∧
    (l.foldl State.settleCommand s).sweep = s.sweep ∧ (l.foldl State.settleCommand s).link = s.link ∧
    (l.foldl State.settleCommand s).framer = s.framer ∧ (l.foldl State.settleCommand s).watch = s.watch ∧
    (l.foldl State.settleCommand s).notif = s.notif ∧ (l.foldl State.settleCommand s).pinLinkAct = s.pinLinkAct ∧
    (l.foldl State.settleCommand s).hostMem = s.hostMem ∧ (l.foldl State.settleCommand s).emitted = s.emitted ∧
    (l.foldl State.settleCommand s).choices = s.choices ∧ (l.foldl State.settleCommand s).pending = s.pending := by
  induction l generalizing s with
  | nil => simp
  | cons a l ih => simp [ih]

@[simp] theorem State.settleOwnership_frame (s : State) :
    (s.settleOwnership).dev = s.dev ∧ (s.settleOwnership).mirror = s.mirror ∧ (s.settleOwnership).stream = s.stream ∧
    (s.settleOwnership).sweep = s.sweep ∧ (s.settleOwnership).link = s.link ∧ (s.settleOwnership).framer = s.framer ∧
    (s.settleOwnership).watch = s.watch ∧ (s.settleOwnership).notif = s.notif ∧
    (s.settleOwnership).pinLinkAct = s.pinLinkAct ∧ (s.settleOwnership).hostMem = s.hostMem ∧
    (s.settleOwnership).emitted = s.emitted ∧ (s.settleOwnership).pending = s.pending := by
  simp [State.settleOwnership]

@[simp] theorem State.frameAcknowledged_frame (s : State) (f : TxEntry) :
    (s.frameAcknowledged f).dev = s.dev ∧ (s.frameAcknowledged f).mirror = s.mirror ∧
    (s.frameAcknowledged f).stream = s.stream ∧ (s.frameAcknowledged f).sweep = s.sweep ∧
    (s.frameAcknowledged f).framer = s.framer ∧ (s.frameAcknowledged f).watch = s.watch ∧
    (s.frameAcknowledged f).pinLinkAct = s.pinLinkAct ∧ (s.frameAcknowledged f).hostMem = s.hostMem ∧
    (s.frameAcknowledged f).emitted = s.emitted ∧ (s.frameAcknowledged f).choices = s.choices ∧
    (s.frameAcknowledged f).pending = s.pending := by
  unfold State.frameAcknowledged; repeat' split
  all_goals simp

@[simp] theorem State.frameAcknowledged_fold_frame (l : List TxEntry) (s : State) :
    (l.foldl State.frameAcknowledged s).dev = s.dev ∧ (l.foldl State.frameAcknowledged s).mirror = s.mirror ∧
    (l.foldl State.frameAcknowledged s).stream = s.stream ∧ (l.foldl State.frameAcknowledged s).sweep = s.sweep ∧
    (l.foldl State.frameAcknowledged s).framer = s.framer ∧ (l.foldl State.frameAcknowledged s).watch = s.watch ∧
    (l.foldl State.frameAcknowledged s).pinLinkAct = s.pinLinkAct ∧
    (l.foldl State.frameAcknowledged s).hostMem = s.hostMem ∧
    (l.foldl State.frameAcknowledged s).emitted = s.emitted ∧
    (l.foldl State.frameAcknowledged s).choices = s.choices ∧ (l.foldl State.frameAcknowledged s).pending = s.pending := by
  induction l generalizing s with
  | nil => simp
  | cons a l ih => simp [ih]

@[simp] theorem State.event_fold_frame (l : List Event) (s : State) :
    (l.foldl State.event s).dev = s.dev ∧ (l.foldl State.event s).mirror = s.mirror ∧
    (l.foldl State.event s).regions = s.regions ∧ (l.foldl State.event s).rings = s.rings ∧
    (l.foldl State.event s).cmd = s.cmd ∧ (l.foldl State.event s).stream = s.stream ∧
    (l.foldl State.event s).sweep = s.sweep ∧ (l.foldl State.event s).link = s.link ∧
    (l.foldl State.event s).framer = s.framer ∧ (l.foldl State.event s).watch = s.watch ∧
    (l.foldl State.event s).pinLinkAct = s.pinLinkAct ∧ (l.foldl State.event s).hostMem = s.hostMem ∧
    (l.foldl State.event s).emitted = s.emitted ∧ (l.foldl State.event s).choices = s.choices ∧
    (l.foldl State.event s).pending = s.pending := by
  induction l generalizing s with
  | nil => simp
  | cons a l ih => simp [ih]

@[simp] theorem State.presentWrite_frame (s : State) (i : Fin 32) (e : OctEntry) (r : Fin 64) (o : Nat)
    (ws : List Word) (w : Bool) :
    (s.presentWrite i e r o ws w).notif = s.notif ∧ (s.presentWrite i e r o ws w).pinLinkAct = s.pinLinkAct ∧
    (s.presentWrite i e r o ws w).hostMem = s.hostMem ∧ (s.presentWrite i e r o ws w).choices = s.choices ∧
    (s.presentWrite i e r o ws w).pending = s.pending := by
  unfold State.presentWrite; simp only []; repeat' split
  all_goals simp

@[simp] theorem State.presentHeadWrite_frame (s : State) :
    (s.presentHeadWrite).notif = s.notif ∧ (s.presentHeadWrite).pinLinkAct = s.pinLinkAct ∧
    (s.presentHeadWrite).hostMem = s.hostMem ∧ (s.presentHeadWrite).choices = s.choices ∧
    (s.presentHeadWrite).pending = s.pending := by
  unfold State.presentHeadWrite; repeat' split
  all_goals simp

@[simp] theorem State.writeEffect_frame (s : State) (i : Fin 32) (e : OctEntry) (r : Fin 64) (o : Nat)
    (src : WriteSource) (w : Bool) :
    (s.writeEffect i e r o src w).notif = s.notif ∧ (s.writeEffect i e r o src w).pinLinkAct = s.pinLinkAct ∧
    (s.writeEffect i e r o src w).hostMem = s.hostMem ∧ (s.writeEffect i e r o src w).choices = s.choices ∧
    (s.writeEffect i e r o src w).pending = s.pending := by
  unfold State.writeEffect; simp only []; repeat' split
  all_goals simp

@[simp] theorem State.refreshSearch_frame (s : State) (n : Nat) :
    (s.refreshSearch n).dev = s.dev ∧ (s.refreshSearch n).mirror = s.mirror ∧
    (s.refreshSearch n).regions = s.regions ∧ (s.refreshSearch n).rings = s.rings ∧ (s.refreshSearch n).cmd = s.cmd ∧
    (s.refreshSearch n).sweep = s.sweep ∧ (s.refreshSearch n).framer = s.framer ∧
    (s.refreshSearch n).watch = s.watch ∧ (s.refreshSearch n).notif = s.notif ∧
    (s.refreshSearch n).pinLinkAct = s.pinLinkAct ∧ (s.refreshSearch n).hostMem = s.hostMem ∧
    (s.refreshSearch n).emitted = s.emitted ∧ (s.refreshSearch n).choices = s.choices ∧
    (s.refreshSearch n).pending = s.pending := by
  unfold State.refreshSearch; repeat' split
  all_goals simp

@[simp] theorem State.refreshStep_frame (s : State) (c : RefreshCursor) :
    (s.refreshStep c).1.mirror = s.mirror ∧ (s.refreshStep c).1.cmd = s.cmd ∧ (s.refreshStep c).1.watch = s.watch ∧
    (s.refreshStep c).1.notif = s.notif ∧ (s.refreshStep c).1.pinLinkAct = s.pinLinkAct ∧
    (s.refreshStep c).1.hostMem = s.hostMem ∧ (s.refreshStep c).1.choices = s.choices ∧
    (s.refreshStep c).1.pending = s.pending := by
  unfold State.refreshStep; simp only []; repeat' split
  all_goals simp

@[simp] theorem State.refreshRun_frame (fuel : Nat) (s : State) :
    (State.refreshRun fuel s).mirror = s.mirror ∧ (State.refreshRun fuel s).cmd = s.cmd ∧
    (State.refreshRun fuel s).watch = s.watch ∧ (State.refreshRun fuel s).notif = s.notif ∧
    (State.refreshRun fuel s).pinLinkAct = s.pinLinkAct ∧ (State.refreshRun fuel s).hostMem = s.hostMem ∧
    (State.refreshRun fuel s).choices = s.choices ∧ (State.refreshRun fuel s).pending = s.pending := by
  induction fuel generalizing s with
  | zero => simp [State.refreshRun]
  | succ n ih =>
    unfold State.refreshRun; repeat' split
    all_goals simp [ih]

@[simp] theorem State.presentRequester_frame (s : State) (q : Requester) :
    (s.presentRequester q).notif = s.notif ∧ (s.presentRequester q).pinLinkAct = s.pinLinkAct ∧
    (s.presentRequester q).hostMem = s.hostMem ∧ (s.presentRequester q).choices = s.choices ∧
    (s.presentRequester q).pending = s.pending := by
  cases q <;> simp [State.presentRequester]

@[simp] theorem State.presentNext_frame (s : State) (q : Requester) :
    (s.presentNext q).notif = s.notif ∧ (s.presentNext q).pinLinkAct = s.pinLinkAct ∧
    (s.presentNext q).hostMem = s.hostMem ∧ (s.presentNext q).choices = s.choices ∧
    (s.presentNext q).pending = s.pending := by
  unfold State.presentNext State.andThen; split <;> simp

@[simp] theorem State.presentNext_fold_frame (l : List Requester) (s : State) :
    (l.foldl State.presentNext s).notif = s.notif ∧ (l.foldl State.presentNext s).pinLinkAct = s.pinLinkAct ∧
    (l.foldl State.presentNext s).hostMem = s.hostMem ∧ (l.foldl State.presentNext s).choices = s.choices ∧
    (l.foldl State.presentNext s).pending = s.pending := by
  induction l generalizing s with
  | nil => simp
  | cons a l ih => simp [ih]

@[simp] theorem State.presentWaiting_frame (s : State) :
    (s.presentWaiting).notif = s.notif ∧ (s.presentWaiting).pinLinkAct = s.pinLinkAct ∧
    (s.presentWaiting).hostMem = s.hostMem ∧ (s.presentWaiting).pending = s.pending := by
  simp [State.presentWaiting]

@[simp] theorem State.takeAcknowledgement_frame (s : State) (n : Nat) :
    (s.takeAcknowledgement n).pinLinkAct = s.pinLinkAct ∧ (s.takeAcknowledgement n).hostMem = s.hostMem ∧
    (s.takeAcknowledgement n).pending = s.pending := by
  unfold State.takeAcknowledgement; simp only []; split <;> simp

@[simp] theorem State.processAck_frame (s : State) (n : BitVec 8) :
    (s.processAck n).pinLinkAct = s.pinLinkAct ∧ (s.processAck n).hostMem = s.hostMem ∧
    (s.processAck n).pending = s.pending := by
  unfold State.processAck; simp only []; repeat' split
  all_goals simp

@[simp] theorem State.reconcile_frame (s : State) (own peer : HelloContent) :
    (s.reconcile own peer).dev = s.dev ∧ (s.reconcile own peer).mirror = s.mirror ∧
    (s.reconcile own peer).rings = s.rings ∧ (s.reconcile own peer).cmd = s.cmd ∧
    (s.reconcile own peer).stream = s.stream ∧ (s.reconcile own peer).sweep = s.sweep ∧
    (s.reconcile own peer).link = s.link ∧ (s.reconcile own peer).framer = s.framer ∧
    (s.reconcile own peer).watch = s.watch ∧ (s.reconcile own peer).pinLinkAct = s.pinLinkAct ∧
    (s.reconcile own peer).hostMem = s.hostMem ∧ (s.reconcile own peer).emitted = s.emitted ∧
    (s.reconcile own peer).choices = s.choices ∧ (s.reconcile own peer).pending = s.pending := by
  simp [State.reconcile]

@[simp] theorem State.completeJoin_frame (s : State) (peer : HelloContent) :
    (s.completeJoin peer).mirror = s.mirror ∧ (s.completeJoin peer).cmd = s.cmd ∧
    (s.completeJoin peer).watch = s.watch ∧ (s.completeJoin peer).pinLinkAct = s.pinLinkAct ∧
    (s.completeJoin peer).hostMem = s.hostMem ∧ (s.completeJoin peer).choices = s.choices ∧
    (s.completeJoin peer).pending = s.pending := by
  simp [State.completeJoin]

/-- Parts of a step that each keep an item keep it together. -/
theorem State.taking_fold_keeps {β : Type} (g : State → β) (l : List (State → State)) (s : State)
    (h : ∀ f ∈ l, ∀ t : State, g (f t) = g t) : g (l.foldl State.taking s) = g s := by
  induction l generalizing s with
  | nil => rfl
  | cons f l ih =>
    rw [List.foldl_cons, ih _ fun k hk => h k (List.mem_cons_of_mem _ hk)]
    exact h f List.mem_cons_self s

theorem mem_freeOrderAux {α : Type} (n c : Nat) (l : List α) (a : α) (h : a ∈ freeOrderAux n c l) : a ∈ l := by
  induction n generalizing l with
  | zero => simpa [freeOrderAux] using h
  | succ n ih =>
    match l with
    | [] => simp [freeOrderAux] at h
    | [b] => simpa [freeOrderAux] using h
    | b :: d :: rest =>
      simp only [freeOrderAux] at h
      split at h
      · rename_i x hx
        rcases List.mem_cons.1 h with rfl | h
        · exact List.mem_of_getElem? hx
        · exact List.mem_of_mem_eraseIdx (ih _ h)
      · exact h

/-- A free order holds items of the list only. -/
theorem mem_freeOrder {α : Type} {c : Nat} {l : List α} {a : α} (h : a ∈ freeOrder c l) : a ∈ l :=
  mem_freeOrderAux _ _ _ _ h

@[simp] theorem State.linkLoss_frame (s : State) (x : LossReason) :
    (s.linkLoss x).pinLinkAct = s.pinLinkAct ∧ (s.linkLoss x).hostMem = s.hostMem ∧
    (s.linkLoss x).pending = s.pending := by
  have parts : ∀ t : State, ∀ f ∈ t.lossParts, ∀ u : State,
      (f u).pinLinkAct = u.pinLinkAct ∧ (f u).hostMem = u.hostMem ∧ (f u).pending = u.pending := by
    intro t f hf u
    simp only [State.lossParts, List.mem_cons] at hf
    rcases hf with rfl | hf
    · simp
    · split at hf
      · simp only [List.mem_singleton] at hf; subst hf; simp
      · simp at hf
  unfold State.linkLoss
  simp only []
  refine ⟨?_, ?_, ?_⟩
  · split <;> simp <;>
      rw [State.taking_fold_keeps (fun t => t.pinLinkAct)] <;>
        first | (intro f hf t; exact (parts _ f (mem_freeOrder hf) t).1) | simp
  · split <;> simp <;>
      rw [State.taking_fold_keeps (fun t => t.hostMem)] <;>
        first | (intro f hf t; exact (parts _ f (mem_freeOrder hf) t).2.1) | simp
  · split <;> simp <;>
      rw [State.taking_fold_keeps (fun t => t.pending)] <;>
        first | (intro f hf t; exact (parts _ f (mem_freeOrder hf) t).2.2) | simp

@[simp] theorem State.giveUp_frame (s : State) (e : OctEntry) :
    (s.giveUp e).dev = s.dev ∧ (s.giveUp e).mirror = s.mirror ∧ (s.giveUp e).sweep = s.sweep ∧
    (s.giveUp e).link = s.link ∧ (s.giveUp e).framer = s.framer ∧ (s.giveUp e).watch = s.watch ∧
    (s.giveUp e).notif = s.notif ∧ (s.giveUp e).pinLinkAct = s.pinLinkAct ∧ (s.giveUp e).hostMem = s.hostMem ∧
    (s.giveUp e).emitted = s.emitted ∧ (s.giveUp e).choices = s.choices ∧ (s.giveUp e).pending = s.pending := by
  unfold State.giveUp; repeat' split
  all_goals simp

@[simp] theorem State.abortEntry_frame (s : State) (i : Fin 32) :
    (s.abortEntry i).dev = s.dev ∧ (s.abortEntry i).mirror = s.mirror ∧ (s.abortEntry i).sweep = s.sweep ∧
    (s.abortEntry i).link = s.link ∧ (s.abortEntry i).framer = s.framer ∧ (s.abortEntry i).watch = s.watch ∧
    (s.abortEntry i).notif = s.notif ∧ (s.abortEntry i).pinLinkAct = s.pinLinkAct ∧
    (s.abortEntry i).hostMem = s.hostMem ∧ (s.abortEntry i).emitted = s.emitted ∧
    (s.abortEntry i).choices = s.choices ∧ (s.abortEntry i).pending = s.pending := by
  unfold State.abortEntry; repeat' split
  all_goals simp

@[simp] theorem State.abortIdle_frame (s : State) (i : Fin 32) :
    (s.abortIdle i).dev = s.dev ∧ (s.abortIdle i).mirror = s.mirror ∧ (s.abortIdle i).sweep = s.sweep ∧
    (s.abortIdle i).link = s.link ∧ (s.abortIdle i).framer = s.framer ∧ (s.abortIdle i).watch = s.watch ∧
    (s.abortIdle i).notif = s.notif ∧ (s.abortIdle i).pinLinkAct = s.pinLinkAct ∧
    (s.abortIdle i).hostMem = s.hostMem ∧ (s.abortIdle i).emitted = s.emitted ∧ (s.abortIdle i).choices = s.choices ∧
    (s.abortIdle i).pending = s.pending := by
  unfold State.abortIdle; repeat' split
  all_goals simp

@[simp] theorem State.abortIdle_fold_frame (l : List (Fin 32)) (s : State) :
    (l.foldl State.abortIdle s).dev = s.dev ∧ (l.foldl State.abortIdle s).mirror = s.mirror ∧
    (l.foldl State.abortIdle s).sweep = s.sweep ∧ (l.foldl State.abortIdle s).link = s.link ∧
    (l.foldl State.abortIdle s).framer = s.framer ∧ (l.foldl State.abortIdle s).watch = s.watch ∧
    (l.foldl State.abortIdle s).notif = s.notif ∧ (l.foldl State.abortIdle s).pinLinkAct = s.pinLinkAct ∧
    (l.foldl State.abortIdle s).hostMem = s.hostMem ∧ (l.foldl State.abortIdle s).emitted = s.emitted ∧
    (l.foldl State.abortIdle s).choices = s.choices ∧ (l.foldl State.abortIdle s).pending = s.pending := by
  induction l generalizing s with
  | nil => simp
  | cons a l ih => simp [ih]

@[simp] theorem State.abortAll_frame (s : State) :
    (s.abortAll).dev = s.dev ∧ (s.abortAll).mirror = s.mirror ∧ (s.abortAll).sweep = s.sweep ∧
    (s.abortAll).link = s.link ∧ (s.abortAll).framer = s.framer ∧ (s.abortAll).watch = s.watch ∧
    (s.abortAll).notif = s.notif ∧ (s.abortAll).pinLinkAct = s.pinLinkAct ∧ (s.abortAll).hostMem = s.hostMem ∧
    (s.abortAll).emitted = s.emitted ∧ (s.abortAll).choices = s.choices ∧ (s.abortAll).pending = s.pending := by
  simp [State.abortAll]

end Sys2Proof.Machine
end

