-- ==== Sys2Proof/Laws/Ops.lean ====
section
/-! SUPPORT. One lemma for each shared operation that says once what it does, in the words of Safety.lean. -/

namespace Sys2Proof.Machine

/-! ## Commands and steps -/

theorem live_runs {f : State → State} {s : State} (h : s.dev.perst = false) : live f s = .next (f s) := by
  simp [live, h]

theorem live_held {f : State → State} {s : State} (h : s.dev.perst = true) : live f s = .next s := by
  simp [live, h]

theorem State.Runs.working {s : State} (h : s.Runs) : s.working = true := by
  simp [State.working, h.2]

theorem State.atHead_ready {s : State} {i : Fin 32} {rest : List (Fin 32)} {e : OctEntry} (h : s.HeadReady i rest e)
    (f : Fin 32 → OctEntry → State) : s.atHead f = f i e := by
  obtain ⟨⟨_, hr⟩, hq, he, hp⟩ := h
  have he' : s.entry i = some e := he
  simp [State.atHead, hr, hq, he', hp]

theorem step_withFront (c : Instr) (s : State) : step (s.withFront c) = exec c s := rfl

/-! ## Counters and submissions -/

theorem State.raise_eq (s : State) (c : Counter) : s.raise c = s.counted c := by
  simp only [State.raise, State.counted, saturatingSucc, State.counter]
  split <;> simp_all

theorem State.event_eq (s : State) (e : Event) : s.event e = s.withEvent e := rfl

theorem State.protocolError_eq (s : State) (k : ProtocolKind) (b : Option Byte) :
    s.protocolError k b = s.withProtocolError k b := by
  simp [State.protocolError, State.withProtocolError, State.raise_eq, State.event_eq]

/-! ## Regions -/

@[simp] theorem State.region_setRegion_self (s : State) (r : Fin 64) (e : RegionEntry) :
    (s.setRegion r e).region r = e := by
  simp [State.region, State.setRegion]

theorem State.region_setRegion (s : State) (r q : Fin 64) (e : RegionEntry) :
    (s.setRegion r e).region q = if q = r then e else s.region q := by
  simp only [State.region, State.setRegion, Fin.getElem_fin]
  split
  · subst_vars; simp
  · rename_i h
    exact Vector.getElem_set_ne r.2 q.2 (fun hh => h (Fin.ext hh.symm))

@[simp] theorem State.region_mapRegions (s : State) (f : Fin 64 → RegionEntry → RegionEntry) (r : Fin 64) :
    (s.mapRegions f).region r = f r (s.region r) := by
  simp [State.region, State.mapRegions]

/-! ## Entries, completions and resources -/

theorem State.requestCompletion_eq {s : State} {i : Fin 32} {e : OctEntry} (h : s.cmd.oct[i] = some e) (st : Status)
    (info : Info) : s.requestCompletion i st info = s.withCompletion i e st info := by
  have h' : s.entry i = some e := h
  simp [State.requestCompletion, h', State.withCompletion, State.setEntry, OctEntry.finished]

theorem State.finishHead_eq {s : State} {i : Fin 32} {rest : List (Fin 32)} {e : OctEntry}
    (h : s.cmd.oct[i] = some e) (hq : s.cmd.queue = i :: rest) (st : Status) (info : Info) :
    s.finishHead i st info = s.headDone i rest e st info := by
  simp [State.finishHead, State.requestCompletion_eq h, State.leaveHead, State.headDone, State.withCompletion, hq]

theorem State.awaitEvent_eq {s : State} {i : Fin 32} {rest : List (Fin 32)} (hq : s.cmd.queue = i :: rest)
    (e : OctEntry) : s.awaitEvent i e = s.headWaits i rest e := by
  simp [State.awaitEvent, State.setEntry, State.leaveHead, State.headWaits, hq]

theorem State.subRing_setSubRing (s : State) (ring q : Ring) (v : SubRing) :
    (s.setSubRing ring v).subRing q = if q = ring then v else s.subRing q := by
  cases ring <;> cases q <;> simp [State.subRing, State.setSubRing]

theorem State.subRing_offerResource (s : State) (x : Resource) (q : Ring) :
    (s.offerResource x).subRing q = (s.subRing q).offer x := by
  cases q <;> rfl

/-- A place found free is free, and every lower one is in use. -/
theorem firstFree_spec {α : Type} {n : Nat} {v : Vector (Option α) n} {i : Fin n} (h : firstFree v = some i) :
    v[i] = none ∧ ∀ j : Fin n, j < i → v[j] ≠ none := by
  unfold firstFree at h
  obtain ⟨hi, as, bs, hs, has⟩ := List.find?_eq_some_iff_append.1 h
  refine ⟨by simpa using hi, fun j hj => ?_⟩
  have hj2 : j ∈ as := by
    have hmem : j ∈ List.finRange n := List.mem_finRange j
    rw [hs] at hmem
    rcases List.mem_append.1 hmem with h1 | h1
    · exact h1
    · exfalso
      have hp : (List.finRange n).Pairwise (· < ·) := List.pairwise_lt_finRange n
      rw [hs] at hp
      rcases List.mem_cons.1 h1 with h2 | h2
      · subst h2; exact absurd hj (lt_irrefl _)
      · have := (List.pairwise_cons.1 (List.pairwise_append.1 hp).2.1).1 j h2
        exact absurd hj (not_lt.2 this.le)
  have := has j hj2
  intro hn; simp [hn] at this

/-! ## Entry to FAULTED -/

theorem State.enterFaulted_spec {s : State} (h : s.working = true) (code : FaultCode) :
    s.HasFaulted (s.enterFaulted code) code := by
  have hreg : ∀ r, (s.enterFaulted code).region r = (s.region r).stopDeferral := by
    intro r; simp [State.region, State.enterFaulted, h]
  have hbye : s.link.state.hasPeer = true ↔
      s.link.state = .joining ∨ s.link.state = .syncing ∨ s.link.state = .up := by
    cases s.link.state <;> simp [LinkState.hasPeer]
  refine ⟨?_, ?_, ?_, ?_, ?_, ?_, ?_, ?_, ?_, ?_, ?_, ?_, ?_, ?_, ?_, ?_, ?_, ?_, ?_, ?_, ?_, ?_, ?_, ?_, ?_, ?_, ?_,
    ?_, ?_, ?_, ?_, ?_, ?_, ?_, ?_⟩
  case refine_11 =>
    intro r q hq
    rw [hreg] at hq
    simp only [RegionEntry.stopDeferral, Option.map_eq_some_iff] at hq
    obtain ⟨p, _, rfl⟩ := hq; rfl
  case refine_16 => simp only [State.enterFaulted, h, if_true, hbye]
  case refine_34 =>
    intro r; rw [hreg]; exact ⟨rfl, rfl⟩
  all_goals simp [State.enterFaulted, h]

/-- Outside RUNNING and STOPPING a fault report is dropped (R180). -/
theorem State.enterFaulted_dropped {s : State} (h : s.working = false) (code : FaultCode) :
    s.enterFaulted code = s := by
  simp [State.enterFaulted, h]

/-! ## The Transmit List and the grant step -/

theorem State.enqueue_control (s : State) (c : SeqContent) : s.enqueue c none = s.withControl c := rfl

/-- The grant step of an ACKED or OFF region, and of a CYCLIC one whose words are good (R32). -/
theorem State.grantStep_plain {s : State} {r : Fin 64} (h : (s.region r).cls ≠ .cyclic)
    (hg : (s.region r).generation ≠ Config.genLimit) : s.grantStep r = s.granted r none := by
  unfold State.grantStep
  split
  · exact absurd ‹_› h
  · simp [State.grantWith, nextGeneration, hg, State.granted, State.withRegion, State.setRegion, State.withControl,
      State.enqueue]

theorem State.grantStep_cyclic {s : State} {r : Fin 64} {words : List Word} (h : (s.region r).cls = .cyclic)
    (hg : (s.region r).generation ≠ Config.genLimit) (hw : s.capture r 0 64 = some words) :
    s.grantStep r = s.granted r (some words) := by
  simp [State.grantStep, h, hw, State.grantWith, nextGeneration, hg, State.granted, State.withRegion, State.setRegion,
    State.withControl, State.enqueue]

/-- A received acknowledgement value does one of three things (R52). -/
theorem State.processAck_cases (s : State) (n : BitVec 8) :
    s.processAck n =
      if (n - s.oldestSeq).toNat < s.sentCount then s.takeAcknowledgement ((n - s.oldestSeq).toNat + 1)
      else if (n - s.oldestSeq).toNat ≤ 127 then s.withProtocolError .ackAhead none
      else s := by
  simp [State.processAck, State.protocolError_eq]

/-! ## Received frames -/

theorem State.takeHeld_holds {s : State} {f : Frame} {rest : List Frame} (h : s.Holds f rest) {α : Type}
    {kind : Frame → Option α} {a : α} (hk : kind f = some a) (g : State → α → State) :
    s.takeHeld kind g = g { s with framer.heldFrames := rest } a := by
  simp [State.takeHeld, h.1.2, h.2, hk]

theorem State.filtered_peer {s : State} {epoch : BitVec 16} (h : s.streaming = true)
    (hp : s.heardEpoch = some epoch) (f : State → State) : s.filtered epoch f = f s.restartSilence := by
  have : s.link.state.hasPeer = true := by
    revert h; unfold State.streaming; cases s.link.state <;> simp [LinkState.hasPeer]
  simp [State.filtered, this, hp]

/-- A sequenced frame taken in order is dispatched on the state that has advanced the expected number (R57, R58). -/
theorem State.Receives.dispatch {s u : State} {seq acked : BitVec 8} {c : SeqContent} (h : s.Receives seq acked c u)
    {α : Type} {kind : SeqContent → Option α} {a : α} (hk : kind c = some a) (d : State → α → State)
    (hs : seq = u.stream.expected) :
    live (fun t => t.receiveSequenced kind d) s = .next (d u.inOrder a) := by
  obtain ⟨h1, h2, ep, rest, h3, h4, rfl⟩ := h
  rw [live_runs h3.1.1]
  congr 1
  have hk' : Frame.sequencedOf kind { epoch := ep, body := .sequenced seq acked c } = some (ep, seq, acked, a) := by
    simp [Frame.sequencedOf, Frame.asSequenced, hk]
  unfold State.receiveSequenced
  rw [State.takeHeld_holds h3 hk']
  have a1 : ({ s with framer.heldFrames := rest } : State).streaming = true := h1
  have a2 : ({ s with framer.heldFrames := rest } : State).heardEpoch = some ep := h4
  unfold State.toStream
  rw [State.filtered_peer a1 a2]
  have e : (State.restartSilence { s with framer.heldFrames := rest }) = s.passed rest := rfl
  have a3 : (s.passed rest).streaming = true := h1
  simp only [e, a3, if_true, State.takeSequenced, State.andThen, h2, if_false]
  rw [← hs]
  simp
  rfl

/-- The wire's number of a region names that region. -/
@[simp] theorem regionOfByte_ofNat (r : Fin 64) : regionOfByte (BitVec.ofNat 8 r.val) = some r := by
  revert r; decide

theorem State.outstanding_iff (s : State) (r : Fin 64) :
    s.outstanding r = true ↔ ∃ t ∈ s.stream.list, t.content.handsOver r = true := by
  simp [State.outstanding]

/-! ## WRITE, the arbiter's take and free orders -/

theorem State.writeTakesEffect_eq (s : State) (e : OctEntry) (r : Fin 64) : s.writeTakesEffect e r = s.unstaged r e := by
  simp [State.writeTakesEffect, State.unstaged, State.lowerStaging, State.setRegion, State.withRegion]

theorem State.region_unstaged (s : State) (r q : Fin 64) (e : OctEntry) :
    (s.unstaged r e).region q =
      if q = r then { s.region r with stagingCount := (s.region r).stagingCount - 1 } else s.region q := by
  have h : (s.unstaged r e).region q =
      (s.setRegion r { s.region r with stagingCount := (s.region r).stagingCount - 1 }).region q := by
    unfold State.unstaged State.freeStaging
    split <;> rfl
  rw [h, State.region_setRegion]

/-- A WRITE at the head that takes its effect and completes (R125). -/
theorem State.writeCompletes_eq {s : State} {i : Fin 32} {rest : List (Fin 32)} {e : OctEntry}
    (h1 : s.cmd.oct[i] = some e) (h2 : s.cmd.queue = i :: rest) (r : Fin 64) (st : Status) (info : Info) :
    s.writeCompletes i e r st info = ((s.unstaged r e).headDone i rest e st info).grantIfDue r := by
  unfold State.writeCompletes
  rw [State.writeTakesEffect_eq]
  have a1 : (s.unstaged r e).cmd.oct[i] = some e := by
    unfold State.unstaged State.freeStaging
    split <;> simpa [State.withRegion, State.offerResource] using h1
  have a2 : (s.unstaged r e).cmd.queue = i :: rest := by
    unfold State.unstaged State.freeStaging
    split <;> simpa [State.withRegion, State.offerResource] using h2
  rw [State.finishHead_eq a1 a2]

theorem State.transmit_eq (s : State) (epoch : BitVec 16) (body : FrameBody) :
    s.transmit epoch body = s.sending epoch body := by
  simp only [State.transmit, State.sending, State.raise_eq, Bool.and_eq_true]

theorem freeOrderAux_perm {α : Type} (n c : Nat) (l : List α) : (freeOrderAux n c l).Perm l := by
  induction n generalizing l with
  | zero => simp [freeOrderAux]
  | succ n ih =>
    match l with
    | [] => simp [freeOrderAux]
    | [a] => simp [freeOrderAux]
    | a :: b :: rest =>
      simp only [freeOrderAux]
      split
      · rename_i x hx
        obtain ⟨hi, rfl⟩ := List.getElem?_eq_some_iff.1 hx
        exact ((ih _).cons _).trans (List.getElem_cons_eraseIdx_perm hi)
      · exact List.Perm.refl _

/-- A free order holds every item of the list once. -/
theorem freeOrder_perm {α : Type} (c : Nat) (l : List α) : (freeOrder c l).Perm l := freeOrderAux_perm _ _ _

/-! ## The waiting BYE -/

/-- The link states in which entry to FAULTED hands a BYE. -/
theorem LinkState.hasPeer_iff (l : LinkState) : l.hasPeer = true ↔ l = .joining ∨ l = .syncing ∨ l = .up := by
  cases l <;> simp [LinkState.hasPeer]

/-- A waiting BYE may be taken but in FAULTED without a peer. -/
theorem State.byeReady_iff (s : State) : s.byeReady = true ↔ s.framer.bye.isSome = true ∧
    (s.dev.state = .faulted → s.link.state = .joining ∨ s.link.state = .syncing ∨ s.link.state = .up) := by
  simp [State.byeReady, LinkState.hasPeer_iff, Decidable.imp_iff_not_or]

end Sys2Proof.Machine
end

