-- ==== Sys2Proof/Laws/PerInstr.lean ====
section
/-! SUPPORT. What holds of every command: one lemma a constructor. -/

open Sys2Proof Sys2Proof.Machine

/-- The command ends in a next state, whatever the state it finds: no command of the block ends in a fault or a refusal of
the model. -/
def Sys2Proof.Laws.Answers.Statement (i : Instr) : Prop := ∀ s : State, ∃ t, exec i s = .next t

theorem Sys2Proof.Laws.Answers.coldReset :
    Sys2Proof.Laws.Answers.Statement .coldReset := fun _ => ⟨_, rfl⟩

theorem Sys2Proof.Laws.Answers.perstNRelease :
    Sys2Proof.Laws.Answers.Statement .perstNRelease := fun _ => ⟨_, rfl⟩

theorem Sys2Proof.Laws.Answers.initDone :
    Sys2Proof.Laws.Answers.Statement .initDone := fun _ => ⟨_, rfl⟩

theorem Sys2Proof.Laws.Answers.start :
    Sys2Proof.Laws.Answers.Statement .start := fun _ => ⟨_, rfl⟩

theorem Sys2Proof.Laws.Answers.stop :
    Sys2Proof.Laws.Answers.Statement .stop := fun _ => ⟨_, rfl⟩

theorem Sys2Proof.Laws.Answers.reset :
    Sys2Proof.Laws.Answers.Statement .reset := fun _ => ⟨_, rfl⟩

theorem Sys2Proof.Laws.Answers.clearFault :
    Sys2Proof.Laws.Answers.Statement .clearFault := fun _ => ⟨_, rfl⟩

theorem Sys2Proof.Laws.Answers.controlInvalidCode (value : Word) :
    Sys2Proof.Laws.Answers.Statement (.controlInvalidCode value) := fun _ => ⟨_, rfl⟩

theorem Sys2Proof.Laws.Answers.registerWrite (offset : BitVec 12) (data : List Byte) :
    Sys2Proof.Laws.Answers.Statement (.registerWrite offset data) := fun _ => ⟨_, rfl⟩

theorem Sys2Proof.Laws.Answers.producerIndexPost (ring : Ring) (index : BitVec 16) :
    Sys2Proof.Laws.Answers.Statement (.producerIndexPost ring index) := fun _ => ⟨_, rfl⟩

theorem Sys2Proof.Laws.Answers.completionConsumerPost (index : BitVec 16) :
    Sys2Proof.Laws.Answers.Statement (.completionConsumerPost index) := fun _ => ⟨_, rfl⟩

theorem Sys2Proof.Laws.Answers.notificationConsumerPost (index : BitVec 16) :
    Sys2Proof.Laws.Answers.Statement (.notificationConsumerPost index) := fun _ => ⟨_, rfl⟩

theorem Sys2Proof.Laws.Answers.badPostSelector (selector : BitVec 3) (index : BitVec 16) :
    Sys2Proof.Laws.Answers.Statement (.badPostSelector selector index) := fun _ => ⟨_, rfl⟩

theorem Sys2Proof.Laws.Answers.setupReadDone (result : Option (Vector FoundByte 128)) :
    Sys2Proof.Laws.Answers.Statement (.setupReadDone result) := fun _ => ⟨_, rfl⟩

theorem Sys2Proof.Laws.Answers.recordFetchDone (ring : Ring) (result : Option (Vector FoundByte 32)) :
    Sys2Proof.Laws.Answers.Statement (.recordFetchDone ring result) := fun _ => ⟨_, rfl⟩

theorem Sys2Proof.Laws.Answers.recordPresentation :
    Sys2Proof.Laws.Answers.Statement .recordPresentation := fun _ => ⟨_, rfl⟩

theorem Sys2Proof.Laws.Answers.nop :
    Sys2Proof.Laws.Answers.Statement .nop := fun _ => ⟨_, rfl⟩

theorem Sys2Proof.Laws.Answers.write :
    Sys2Proof.Laws.Answers.Statement .write := fun _ => ⟨_, rfl⟩

theorem Sys2Proof.Laws.Answers.read :
    Sys2Proof.Laws.Answers.Statement .read := fun _ => ⟨_, rfl⟩

theorem Sys2Proof.Laws.Answers.fence :
    Sys2Proof.Laws.Answers.Statement .fence := fun _ => ⟨_, rfl⟩

theorem Sys2Proof.Laws.Answers.stats :
    Sys2Proof.Laws.Answers.Statement .stats := fun _ => ⟨_, rfl⟩

theorem Sys2Proof.Laws.Answers.queryRegion :
    Sys2Proof.Laws.Answers.Statement .queryRegion := fun _ => ⟨_, rfl⟩

theorem Sys2Proof.Laws.Answers.claim :
    Sys2Proof.Laws.Answers.Statement .claim := fun _ => ⟨_, rfl⟩

theorem Sys2Proof.Laws.Answers.release :
    Sys2Proof.Laws.Answers.Statement .release := fun _ => ⟨_, rfl⟩

theorem Sys2Proof.Laws.Answers.hold :
    Sys2Proof.Laws.Answers.Statement .hold := fun _ => ⟨_, rfl⟩

theorem Sys2Proof.Laws.Answers.unhold :
    Sys2Proof.Laws.Answers.Statement .unhold := fun _ => ⟨_, rfl⟩

theorem Sys2Proof.Laws.Answers.setClass :
    Sys2Proof.Laws.Answers.Statement .setClass := fun _ => ⟨_, rfl⟩

theorem Sys2Proof.Laws.Answers.watchSet :
    Sys2Proof.Laws.Answers.Statement .watchSet := fun _ => ⟨_, rfl⟩

theorem Sys2Proof.Laws.Answers.watchClear :
    Sys2Proof.Laws.Answers.Statement .watchClear := fun _ => ⟨_, rfl⟩

theorem Sys2Proof.Laws.Answers.linkUp :
    Sys2Proof.Laws.Answers.Statement .linkUp := fun _ => ⟨_, rfl⟩

theorem Sys2Proof.Laws.Answers.linkDown :
    Sys2Proof.Laws.Answers.Statement .linkDown := fun _ => ⟨_, rfl⟩

theorem Sys2Proof.Laws.Answers.stagingTransferDone (slot : Fin 8) (result : Option (List FoundByte)) :
    Sys2Proof.Laws.Answers.Statement (.stagingTransferDone slot result) := fun _ => ⟨_, rfl⟩

theorem Sys2Proof.Laws.Answers.readOutputDone (buffer : Fin 4) (ok : Bool) :
    Sys2Proof.Laws.Answers.Statement (.readOutputDone buffer ok) := fun _ => ⟨_, rfl⟩

theorem Sys2Proof.Laws.Answers.statsOutputDone (ok : Bool) :
    Sys2Proof.Laws.Answers.Statement (.statsOutputDone ok) := fun _ => ⟨_, rfl⟩

theorem Sys2Proof.Laws.Answers.completionWriteDone (ok : Bool) :
    Sys2Proof.Laws.Answers.Statement (.completionWriteDone ok) := fun _ => ⟨_, rfl⟩

theorem Sys2Proof.Laws.Answers.frameTake :
    Sys2Proof.Laws.Answers.Statement .frameTake := fun _ => ⟨_, rfl⟩

theorem Sys2Proof.Laws.Answers.transmitEnd :
    Sys2Proof.Laws.Answers.Statement .transmitEnd := fun _ => ⟨_, rfl⟩

theorem Sys2Proof.Laws.Answers.receiveFrameEnd (cut : Bool) :
    Sys2Proof.Laws.Answers.Statement (.receiveFrameEnd cut) := fun _ => ⟨_, rfl⟩

theorem Sys2Proof.Laws.Answers.helloReceived :
    Sys2Proof.Laws.Answers.Statement .helloReceived := fun _ => ⟨_, rfl⟩

theorem Sys2Proof.Laws.Answers.updateReceived :
    Sys2Proof.Laws.Answers.Statement .updateReceived := fun _ => ⟨_, rfl⟩

theorem Sys2Proof.Laws.Answers.ownReqReceived :
    Sys2Proof.Laws.Answers.Statement .ownReqReceived := fun _ => ⟨_, rfl⟩

theorem Sys2Proof.Laws.Answers.ownGrantReceived :
    Sys2Proof.Laws.Answers.Statement .ownGrantReceived := fun _ => ⟨_, rfl⟩

theorem Sys2Proof.Laws.Answers.ownDenyReceived :
    Sys2Proof.Laws.Answers.Statement .ownDenyReceived := fun _ => ⟨_, rfl⟩

theorem Sys2Proof.Laws.Answers.syncDoneReceived :
    Sys2Proof.Laws.Answers.Statement .syncDoneReceived := fun _ => ⟨_, rfl⟩

theorem Sys2Proof.Laws.Answers.ackReceived :
    Sys2Proof.Laws.Answers.Statement .ackReceived := fun _ => ⟨_, rfl⟩

theorem Sys2Proof.Laws.Answers.snapshotReceived :
    Sys2Proof.Laws.Answers.Statement .snapshotReceived := fun _ => ⟨_, rfl⟩

theorem Sys2Proof.Laws.Answers.idleReceived :
    Sys2Proof.Laws.Answers.Statement .idleReceived := fun _ => ⟨_, rfl⟩

theorem Sys2Proof.Laws.Answers.byeReceived :
    Sys2Proof.Laws.Answers.Statement .byeReceived := fun _ => ⟨_, rfl⟩

theorem Sys2Proof.Laws.Answers.retransmissionTimerExpiry :
    Sys2Proof.Laws.Answers.Statement .retransmissionTimerExpiry := fun _ => ⟨_, rfl⟩

theorem Sys2Proof.Laws.Answers.deferralTimerExpiry (region : Fin 64) :
    Sys2Proof.Laws.Answers.Statement (.deferralTimerExpiry region) := fun _ => ⟨_, rfl⟩

theorem Sys2Proof.Laws.Answers.sweepTimerExpiry :
    Sys2Proof.Laws.Answers.Statement .sweepTimerExpiry := fun _ => ⟨_, rfl⟩

theorem Sys2Proof.Laws.Answers.helloTimerExpiry :
    Sys2Proof.Laws.Answers.Statement .helloTimerExpiry := fun _ => ⟨_, rfl⟩

theorem Sys2Proof.Laws.Answers.silenceTimerExpiry :
    Sys2Proof.Laws.Answers.Statement .silenceTimerExpiry := fun _ => ⟨_, rfl⟩

theorem Sys2Proof.Laws.Answers.quietTimerExpiry :
    Sys2Proof.Laws.Answers.Statement .quietTimerExpiry := fun _ => ⟨_, rfl⟩

theorem Sys2Proof.Laws.Answers.linkActTimeout :
    Sys2Proof.Laws.Answers.Statement .linkActTimeout := fun _ => ⟨_, rfl⟩

theorem Sys2Proof.Laws.Answers.watchEvaluation :
    Sys2Proof.Laws.Answers.Statement .watchEvaluation := fun _ => ⟨_, rfl⟩

theorem Sys2Proof.Laws.Answers.notificationTake :
    Sys2Proof.Laws.Answers.Statement .notificationTake := fun _ => ⟨_, rfl⟩

theorem Sys2Proof.Laws.Answers.notificationWriteDone (ok : Bool) :
    Sys2Proof.Laws.Answers.Statement (.notificationWriteDone ok) := fun _ => ⟨_, rfl⟩

theorem Sys2Proof.Laws.Answers.ringManagerStopReport :
    Sys2Proof.Laws.Answers.Statement .ringManagerStopReport := fun _ => ⟨_, rfl⟩

theorem Sys2Proof.Laws.Answers.notificationStopReport :
    Sys2Proof.Laws.Answers.Statement .notificationStopReport := fun _ => ⟨_, rfl⟩

theorem Sys2Proof.Laws.Answers.startDelimiter :
    Sys2Proof.Laws.Answers.Statement .startDelimiter := fun _ => ⟨_, rfl⟩

theorem Sys2Proof.Laws.Answers.dataByte (b : Byte) :
    Sys2Proof.Laws.Answers.Statement (.dataByte b) := fun _ => ⟨_, rfl⟩

theorem Sys2Proof.Laws.Answers.codeError :
    Sys2Proof.Laws.Answers.Statement .codeError := fun _ => ⟨_, rfl⟩
end

