-- ==== Sys2Proof/Tests/Slice0.lean ====
section
/-! SUPPORT. Own tests: ill-formed commands are refused, worked examples of the spec, and for the statements of
Obligations.lean states and operands that meet their hypotheses. -/

namespace Sys2Proof.Tests

set_option Elab.async false

open Sys2Proof Sys2Proof.Machine

/-! ## Ill-formed commands -/

theorem test_wf_control_code_1 : (Instr.controlInvalidCode 0x00000101#32).wellFormed = false := by decide
theorem test_wf_control_code_5 : (Instr.controlInvalidCode 5).wellFormed = true := by decide
theorem test_wf_empty_write : (Instr.registerWrite 0 []).wellFormed = false := by decide
theorem test_wf_long_write : (Instr.registerWrite 0 [0, 0, 0, 0, 0, 0, 0, 0, 0]).wellFormed = false := by decide
theorem test_wf_write_past_window : (Instr.registerWrite 0xFFD#12 [0, 0, 0, 0]).wellFormed = false := by decide
theorem test_wf_selector_3 : (Instr.badPostSelector 3 0).wellFormed = false := by decide
theorem test_wf_staging_3_bytes : (Instr.stagingTransferDone 0 (some [none, none, none])).wellFormed = false := by decide
theorem test_wf_staging_none : (Instr.stagingTransferDone 0 (some [])).wellFormed = false := by decide

/-! ## Layouts and checks -/

/-- The check value that catalogues give for the CRC-32 of "123456789" (PRESUMED: log entry 9). -/
theorem test_crc_check_value :
    crc32 [0x31, 0x32, 0x33, 0x34, 0x35, 0x36, 0x37, 0x38, 0x39] = 0xCBF43926#32 := by decide +kernel

/-- An IDLE frame as 11.7 lays it out: kind 9, epoch 0102h, a zero byte. -/
theorem test_idle_content : ({ epoch := 0x0102, body := .idle } : Frame).content = [9, 2, 1, 0] := by decide

/-- An OWN_REQ and an UPDATE frame as 11.7 lays them out, but for the CRC-32. -/
theorem test_frame_contents :
    ({ epoch := 0x0102, body := .sequenced 7 8 (.ownReq 3 0x04030201 true) } : Frame).content =
      [3, 2, 1, 7, 8, 3, 1, 0, 1, 2, 3, 4, 0, 0, 0, 0] ∧
    ({ epoch := 0x0102, body := .sequenced 7 8 (.update 3 48 [0x04030201] true false true) } : Frame).content =
      [2, 2, 1, 7, 8, 3, 48, 1, 5, 0, 0, 0, 1, 2, 3, 4] := by decide

/-- R1: with its parity bit a stored word has an odd count of one bits. -/
theorem test_parity :
    ({ value := 1, parity := false } : MirrorWord).good = true ∧ ({ value := 1, parity := true } : MirrorWord).good = false ∧
    MirrorWord.blank.good = true := by decide

/-- R142's example: 16 slots, f = 3, p = 10, so 7 are pending; p' = 2 leaves 15, and then p' = 3 fails. -/
theorem test_ring_example :
    ringDistance 10 3 16 = 7 ∧ ringDistance 2 3 16 = 15 ∧ ringDistance 3 3 16 < ringDistance 2 3 16 := by decide

/-- The reconcile example of 5.5: P is not fresh and role A, Q is fresh. Regions 0, 1, 4 go to P, 2 and 3 to Q. -/
theorem test_reconcile_example :
    ownerIsHere false true true false 5 0 true = true ∧ ownerIsHere false true true true 2 0 true = true ∧
    ownerIsHere false true false true 3 0 true = false ∧ ownerIsHere false true false false 0 0 true = false ∧
    ownerIsHere false true true true 8 0 true = true ∧ ownerIsHere true false false true 0 5 false = false ∧
    ownerIsHere true false true false 0 3 false = true := by decide

/-! ## States for the tests -/

/-- A setup in force: rings of 16 slots, P = 10 ms, stale limit 3, deferral limit 100 ms. -/
def params : SetupParams := { SetupParams.unloaded with
  nodeId := 7, window := 8, ackTimeout := 20, retryLimit := 3, helloInterval := 10, sweepPeriod := 10, staleLimit := 3,
  deferralLimit := 100, urgentSize := 16, normalSize := 16, completionSize := 16, notifySize := 16 }

/-- The device in a state, with those parameters. -/
def inState (d : DeviceState) : State :=
  { State.reset with dev := { DeviceBlock.reset with state := d, setup := some params } }

/-- A RUNNING part. -/
def run : State := inState .running

/-- The same with the link in a state. -/
def linked (l : LinkState) : State := { run with link.state := l, link.peer := some { nodeId := 12, epoch := 9 } }

/-- A region's entry with a class and a state. -/
def entryOf (c : RegionClass) (o : OwnState) : RegionEntry := { RegionEntry.reset with cls := c, state := o }

/-- The state with an entry at region 3. -/
def at3 (s : State) (e : RegionEntry) : State := s.withRegion 3 e

/-- An admitted command's entry. -/
def slotOf (c : Command) : OctEntry :=
  { ring := .urgent, tag := 0x55, command := c, phase := .queued, staging := none, buffer := none, mark := none,
    info := .zero }

/-- A RUNNING part with an entry in place 0, at the head of the Execution Queue. -/
def headOf (s : State) (e : OctEntry) : State :=
  { s with
    dev.perst := false
    dev.state := .running
    cmd.oct := s.cmd.oct.set 0 (some e)
    cmd.queue := [0] }

/-- Whatever the rest of the state and the command, it stands ready at the head of this one. -/
theorem headOf_ready (s : State) (e : OctEntry) (h : e.phase = .queued) : (headOf s e).HeadReady 0 [] e :=
  ⟨⟨rfl, rfl⟩, rfl, by simp [headOf], h⟩

/-- The first status requested by a step. -/
def firstStatus : Host.Outcome State Fault Refusal → Option Status
  | .next t => t.rings.posting.head?.map fun c => c.status
  | _ => none

/-- A look at the next state. -/
def look {α : Type} (f : State → α) : Host.Outcome State Fault Refusal → Option α
  | .next t => some (f t)
  | _ => none

/-! ## Steps, resets, control (witnesses for O1 to O7) -/

theorem test_step_front : (run.withFront .nop).pending = [.nop] := by decide

theorem test_witness_resets :
    ({ run with dev.perst := true } : State).dev.perst = true ∧
    (State.reset.dev.perst = false ∧ State.reset.dev.state = .init) ∧
    (run.dev.perst = false ∧ run.dev.state ≠ .init) ∧
    ((inState .faulted).dev.perst = false ∧ (inState .faulted).dev.state = .faulted) := by decide

theorem test_witness_control :
    ((inState .halted).dev.perst = false ∧ (inState .halted).dev.state = .halted ∧
      (inState .halted).dev.setupLo.toNat % 64 = 0) ∧
    (({ inState .halted with dev.setupLo := 63 } : State).dev.state = .halted ∧
      ({ inState .halted with dev.setupLo := 63 } : State).dev.setupLo.toNat % 64 ≠ 0) ∧
    (run.dev.state ≠ .halted ∧ run.dev.state ≠ .faulted ∧ (inState .halted).dev.state ≠ .running) ∧
    ((Instr.controlInvalidCode 0).wellFormed = true ∧ (Instr.controlInvalidCode 255).wellFormed = true) := by decide

theorem test_start_loads :
    look (fun t => (t.dev.state, t.dev.setupError)) (exec .start (inState .halted)) = some (.loading, .none) ∧
    look (fun t => (t.dev.state, t.dev.setupError)) (exec .start { inState .halted with dev.setupLo := 63 }) =
      some (.halted, .address) := by decide

theorem test_witness_register_writes :
    run.dev.perst = false ∧ (0x000#12).toNat % 4 = 0 ∧ (0xFFC#12).toNat % 4 = 0 ∧ ([] : List Byte).length < 4 ∧
    [0#8, 0, 0].length < 4 ∧ (0xFF8#12).toNat % 4 = 0 ∧ (0xFF8#12).toNat + 8 ≤ 4096 ∧ [0#8, 0, 0, 0].length = 4 ∧
    (look (fun t => t.dev.setupLo) (exec (.registerWrite 0x00C [1, 2, 3, 4]) run)) = some 0x04030201#32 := by decide

/-- A valid setup block: node id 7, window 8, rings of 16 slots, region 0 ACKED and HERE. -/
def setupBlock : Vector Byte 128 := Vector.ofFn fun i =>
  match i.val with
  | 0x00 => 1
  | 0x02 => 7
  | 0x04 => 8
  | 0x05 => 20
  | 0x06 => 3
  | 0x07 => 10
  | 0x10 => 16
  | 0x12 => 16
  | 0x14 => 16
  | 0x16 => 16
  | 0x40 => 5
  | _ => 0

theorem test_witness_setup :
    ((inState .loading).dev.perst = false ∧ (inState .loading).dev.state = .loading) ∧
    (match validateSetup setupBlock.toList with
      | .ok p => decide (p.window = 8 ∧ p.descriptors[(0 : Fin 64)] = (.acked, true) ∧ p.urgentSize = 16)
      | .error _ => false) = true ∧
    (match validateSetup (setupBlock.set 0 2).toList with
      | .ok _ => false
      | .error e => decide (e = .version)) = true := by decide +kernel

/-! ## STOP, posts, fetches, admission, posting (O8 to O14) -/

theorem test_witness_stop :
    (run.Runs ∧ run.link.state = .off) ∧ ((linked .up).Runs ∧ (linked .up).link.state = .up) ∧
    ((linked .seeking).Runs ∧ (linked .seeking).link.state = .seeking) ∧
    ((linked .rejected).Runs ∧ (linked .rejected).link.state = .rejected) ∧
    ((inState .stopping).dev.state = .stopping ∧ (inState .stopping).rings.posting = [] ∧
      (inState .stopping).rings.reserved = 0 ∧ (inState .stopping).rings.urgent.fetching = false ∧
      (inState .stopping).rings.normal.fetching = false ∧ (∀ i : Fin 32, (inState .stopping).entry i = none) ∧
      (inState .stopping).notif.queue = [] ∧ (inState .stopping).notif.writing = none) := by
  simp only [State.Runs]
  decide

/-- With nothing under way STOP halts in one step. -/
theorem test_stop_halts : look (fun t => t.dev.state) (exec .stop run) = some .halted := by decide +kernel

theorem test_witness_posts :
    (run.Runs ∧ (15#16).toNat < run.ringSize .urgent ∧ (run.subRing .urgent).producer < run.ringSize .urgent ∧
      (run.subRing .urgent).fetch < run.ringSize .urgent ∧
      run.pendingCount .urgent ≤ ((15#16).toNat + run.ringSize .urgent - (run.subRing .urgent).fetch) %
        run.ringSize .urgent) ∧
    ((15#16).toNat < run.params.completionSize ∧
      ringDistance (0#16).toNat run.rings.consumer run.params.completionSize ≤ run.unconsumed) ∧
    ((15#16).toNat < run.params.notifySize) ∧
    (run.ringSize .normal ≤ (16#16).toNat ∧ run.params.completionSize ≤ (16#16).toNat ∧
      run.unconsumed < ringDistance (1#16).toNat run.rings.consumer run.params.completionSize ∧
      run.params.notifySize ≤ (16#16).toNat ∧ (Instr.badPostSelector 4 0).wellFormed = true) ∧
    (({ run with rings.urgent.producer := 7 } : State).Runs ∧
      ringDistance (6#16).toNat 0 16 < ({ run with rings.urgent.producer := 7 } : State).pendingCount .urgent) ∧
    ((inState .halted).dev.perst = false ∧ (inState .halted).dev.state ≠ .running) := by
  simp only [State.Runs]
  decide

theorem test_post_fetches :
    look (fun t => (t.rings.urgent.producer, t.emitted)) (exec (.producerIndexPost .urgent 15) run) =
      some (15, [.hostRead 0 32]) := by decide

theorem test_witness_fetch :
    (({ run with rings.normal.fetching := true } : State).Runs ∧
      (({ run with rings.normal.fetching := true } : State).subRing .normal).fetching = true) ∧
    (({ inState .stopping with rings.normal.fetching := true } : State).dev.state = .stopping ∧
      (({ inState .stopping with rings.normal.fetching := true } : State).subRing .normal).fetching = true) := by
  simp only [State.Runs]
  decide

/-- A record with an opcode, flags, a region, an offset and a count, and zeros. -/
def recordOf (opcode flags region offset count : Byte) : List Byte :=
  [opcode, flags, 0x34, 0x12, region, offset, count] ++ List.replicate 25 0

/-- A RUNNING part whose URGENT ring holds a fetched copy, with an entry at region 3. -/
def withCopy (b : List Byte) (e : RegionEntry) : State :=
  at3 { run with rings.urgent.copy := some b, rings.urgent.producer := 1 } e

/-- Whether the checks pass, and otherwise the status. -/
def checked (s : State) (b : List Byte) : Option Status :=
  match s.checkRecord b with
  | .ok _ => none
  | .error e => some e

theorem test_checks_by_stage :
    checked (withCopy [] (entryOf .acked .here)) (recordOf 2 1 3 60 4) = none ∧
    checked (withCopy [] (entryOf .acked .here)) (recordOf 2 1 3 61 4) = some .badRange ∧
    checked (withCopy [] (entryOf .acked .here)) (recordOf 2 4 3 60 4) = some .badCommand ∧
    checked (withCopy [] (entryOf .off .here)) (recordOf 2 1 3 60 4) = some .regionOff ∧
    checked (withCopy [] (entryOf .off .here)) (recordOf 16 0 0 0 0) = some .badCommand := by decide +kernel

theorem test_witness_presentation :
    let b := recordOf 2 1 3 60 4
    let c := Command.write 3 60 4 (.inline [0, 0, 0, 0]) false
    let s := withCopy b (entryOf .acked .here)
    let y := withCopy b { entryOf .acked .here with pending := some { noWait := false, timer := some 1 } }
    (s.Runs ∧ s.presentedRing = some .urgent ∧ (s.subRing .urgent).copy = some b ∧ s.canReserve = true ∧
      s.checkRecord b = .ok c ∧ s.yields c = false ∧ s.lacking c = none ∧ firstFree s.cmd.oct = some 0) ∧
    (({ s with rings.reserved := 15 } : State).canReserve = false) ∧
    (s.checkRecord (recordOf 2 1 3 61 4) = .error .badRange) ∧
    (y.checkRecord b = .ok c ∧ y.yields c = true) ∧
    (({ s with cmd.oct := Vector.replicate 32 (some (slotOf .nop)) } : State).lacking c = some .octEntry) ∧
    (s.rings.urgent.ready = true ∧ s.rings.urgentRun < 8 ∧ s.rings.normal.ready = false) ∧
    (({ run with rings.normal.copy := some b } : State).rings.normal.ready = true ∧
      ({ run with rings.normal.copy := some b } : State).rings.urgent.ready = false) := by
  simp only [State.Runs]
  refine ⟨⟨⟨?_, ?_⟩, ?_, ?_, ?_, ?_, ?_, ?_, ?_⟩, ?_, ?_, ⟨?_, ?_⟩, ?_, ⟨?_, ?_, ?_⟩, ?_, ?_⟩ <;> first | rfl | decide +kernel

theorem test_witness_posting :
    let c : Completion := { ring := .urgent, tag := 1, status := .ok, info := .zero, entry := some 0 }
    ({ run with rings.posting := [c] } : State).Works ∧ ({ run with rings.posting := [c] } : State).rings.posting = [c] := by
  simp only [State.Works]
  decide

/-! ## Commands at the head (O15 to O27) -/

/-- NOP, QUERY_REGION and FENCE meet their conditions in these states. -/
theorem test_witness_nop_fence :
    (headOf run (slotOf .nop)).HeadReady 0 [] (slotOf .nop) ∧
    (headOf run (slotOf (.queryRegion 63))).HeadReady 0 [] (slotOf (.queryRegion 63)) ∧
    ((headOf run (slotOf .fence)).HeadReady 0 [] (slotOf .fence) ∧ (headOf run (slotOf .fence)).link.state = .off) ∧
    ((headOf (linked .rejected) (slotOf .fence)).link.state = .rejected) ∧
    ((headOf (linked .syncing) (slotOf .fence)).link.state = .syncing ∧
      (headOf (linked .syncing) (slotOf .fence)).stream.list = []) ∧
    ((headOf ((linked .up).enqueue .syncDone none) (slotOf .fence)).stream.list =
      [] ++ [{ content := .syncDone, seq := 0, sent := false, resend := false, owner := none }]) :=
  ⟨headOf_ready _ _ rfl, headOf_ready _ _ rfl, ⟨headOf_ready _ _ rfl, rfl⟩, rfl, ⟨rfl, rfl⟩, rfl⟩

/-- A WRITE of two inline words at offset 62, the last that region 3 has. -/
def writeCmd (waitRemote : Bool) : Command := .write 3 62 2 (.inline [5, 6]) waitRemote

/-- A state with that WRITE at the head, over an entry at region 3. -/
def writing (l : LinkState) (waitRemote : Bool) (e : RegionEntry) : State :=
  headOf (at3 (linked l) { e with stagingCount := 1 }) (slotOf (writeCmd waitRemote))

/-- A WRITE from a buffer in slot 0 of the staging slots. -/
def buffered : OctEntry := { slotOf (.write 3 62 2 (.buffer 64) false) with staging := some 0 }

/-- A state with that WRITE at the head and its slot in a condition. -/
def staged (arrived error : Bool) : State :=
  { headOf (at3 run { entryOf .acked .here with stagingCount := 1 }) buffered with
    cmd.staging := Vector.replicate 8 (some { entry := 0, words := [5, 6], arrived := arrived, error := error }) }

theorem test_write_lines :
    firstStatus (exec .write (writing .off false (entryOf .off .here))) = some .regionOff ∧
    firstStatus (exec .write (writing .off false (entryOf .acked .there))) = some .notOwner ∧
    firstStatus (exec .write (staged false true)) = some .hostAccess ∧
    firstStatus (exec .write (writing .up false (entryOf .cyclic .here))) = some .ok ∧
    firstStatus (exec .write (writing .off false (entryOf .acked .here))) = some .okLocal ∧
    firstStatus (exec .write (writing .up false (entryOf .acked .here))) = some .ok ∧
    look (fun t => t.entry 0) (exec .write (staged false false)) = some (some { buffered with phase := .executingWait }) ∧
    look (fun t => (t.stream.list.length, (t.mirror.read 255).value, (t.mirror.read 254).value))
      (exec .write (writing .up true (entryOf .acked .here))) = some (1, 6, 5) := by decide +kernel

/-- A state with 95 UPDATE frames in its list. -/
def fullList (s : State) : State :=
  let f : TxEntry :=
    { content := .update 0 0 [0] true false false, seq := 0, sent := false, resend := false, owner := none }
  { s with stream.list := List.replicate 95 f }

/-- Each line of the statements on WRITE is met by one of the states of the test above. -/
theorem test_witness_write :
    ((writing .up true (entryOf .acked .here)).HeadReady 0 [] (slotOf (writeCmd true)) ∧
      (writing .up true (entryOf .acked .here)).stagingBusy (slotOf (writeCmd true)) = false ∧
      (writing .up true (entryOf .acked .here)).streaming = true ∧
      (writing .up true (entryOf .acked .here)).updateCount + (writeBatch 2 3 62 [5, 6]).length ≤ 95) ∧
    ((writing .up false (entryOf .off .here)).region 3).cls = .off ∧
    (((writing .up false (entryOf .cyclic .there)).region 3).state ≠ .here) ∧
    ((staged false true).HeadReady 0 [] buffered ∧ (staged false true).stagingFailed buffered = true ∧
      (staged false true).stagingBusy buffered = false) ∧
    ((staged false false).stagingBusy buffered = true) ∧
    (95 < (fullList (writing .up false (entryOf .acked .here))).updateCount + (writeBatch 2 3 62 [5, 6]).length) :=
  ⟨⟨headOf_ready _ _ rfl, by decide +kernel, by decide +kernel, by decide +kernel⟩, by decide +kernel, by decide +kernel,
    ⟨⟨⟨rfl, rfl⟩, rfl, by decide +kernel, rfl⟩, by decide +kernel, by decide +kernel⟩, by decide +kernel,
    by decide +kernel⟩

/-- R47: 33 words make three frames, the last with one word. -/
theorem test_batch_of_33 :
    (writeBatch 33 0 0 (List.replicate 33 0)).length = 3 ∧
    (writeBatch 33 0 0 (List.replicate 33 0)).getLast? = some (.update 0 32 [0] true false false) := by decide +kernel

theorem test_witness_apply : Mirror.wf [] = true ∧ 4094 + [0#32, 0].length ≤ 4096 := by decide

/-- A READ of all of region 3 into buffer 0. -/
def readSlot : OctEntry := { slotOf (.read 3 0 64 128) with buffer := some 0 }

/-- A state in which that READ has its capture. -/
def reading (d : DeviceState) : State :=
  { headOf run readSlot with
    dev := { DeviceBlock.reset with state := d, setup := some params }
    cmd.buffers := Vector.replicate 4
      (some { entry := 0, capture := some { words := [1], generation := 0, stale := true } }) }

/-- A mirror with one word of bad parity, the first of region 3. -/
def badMirror : Mirror := [(192, { value := 1, parity := true })]

theorem test_witness_read :
    ((headOf run readSlot).HeadReady 0 [] readSlot ∧ ((headOf run readSlot).region 3).cls = .off) ∧
    (((headOf (at3 run (entryOf .acked .there)) readSlot).region 3).cls ≠ .off ∧
      Mirror.rangeGood [] (64 * 3) 64 = true) ∧
    (badMirror.wf = true ∧ badMirror.rangeGood (64 * 3) 64 = false) ∧
    ((reading .running).cmd.buffers[(0 : Fin 4)] =
        some { entry := 0, capture := some { words := [1], generation := 0, stale := true } } ∧
      (reading .running).cmd.oct[(0 : Fin 32)] = some readSlot ∧ (reading .running).dev.state = .running ∧
      (reading .stopping).dev.state = .stopping) :=
  ⟨⟨headOf_ready _ _ rfl, by decide +kernel⟩, ⟨by decide +kernel, by decide +kernel⟩,
    ⟨by decide +kernel, by decide +kernel⟩, by decide +kernel, by decide +kernel, by decide +kernel, by decide +kernel⟩

theorem test_read_output :
    firstStatus (exec (.readOutputDone 0 true) (reading .running)) = some .okStale ∧
    firstStatus (exec (.readOutputDone 0 false) (reading .running)) = some .hostAccess ∧
    firstStatus (exec (.readOutputDone 0 true) (reading .stopping)) = some .aborted := by decide +kernel

/-- A STATS that waits at the head for its output transfer. -/
def statsWaits (d : DeviceState) : State :=
  { headOf run { slotOf (.stats 64 true) with phase := .executingWait } with
    dev := { DeviceBlock.reset with state := d, setup := some params }
    cmd.statsCopy := some (Vector.replicate 12 0) }

theorem test_witness_stats :
    (headOf run (slotOf (.stats 64 true))).HeadReady 0 [] (slotOf (.stats 64 true)) ∧
    ((statsWaits .running).cmd.statsCopy = some (Vector.replicate 12 0) ∧ (statsWaits .running).cmd.queue = [0] ∧
      (statsWaits .running).cmd.oct[(0 : Fin 32)] = some { slotOf (.stats 64 true) with phase := .executingWait } ∧
      (statsWaits .stopping).dev.state = .stopping) :=
  ⟨headOf_ready _ _ rfl, by decide +kernel, by decide +kernel, by decide +kernel, by decide +kernel⟩

theorem test_stats_output :
    firstStatus (exec (.statsOutputDone false) (statsWaits .running)) = some .hostAccess := by decide +kernel

/-- A state with a command at the head over an entry at region 3 and a link state. -/
def asking (c : Command) (l : LinkState) (e : RegionEntry) : State := headOf (at3 (linked l) e) (slotOf c)

theorem asking_ready (c : Command) (l : LinkState) (e : RegionEntry) :
    (asking c l e).HeadReady 0 [] (slotOf c) ∧ (asking c l e).link.state = l ∧ (asking c l e).region 3 = e :=
  ⟨headOf_ready _ _ rfl, rfl, by simp [asking, headOf, at3, State.withRegion, State.region]⟩

/-- R23, line by line. -/
theorem test_claim_lines :
    firstStatus (exec .claim (asking (.claim 3 true) .up (entryOf .off .there))) = some .regionOff ∧
    firstStatus (exec .claim (asking (.claim 3 true) .up (entryOf .acked .here))) = some .ok ∧
    firstStatus (exec .claim (asking (.claim 3 true) .up (entryOf .acked .claiming))) = some .inProgress ∧
    firstStatus (exec .claim (asking (.claim 3 true) .syncing (entryOf .acked .there))) = some .linkNotUp ∧
    firstStatus (exec .claim (asking (.claim 3 true) .up { entryOf .acked .there with generation := 4294967295#32 })) =
      some .genLimit ∧
    look (fun t => ((t.region 3).state, t.stream.list.map fun f => f.content))
      (exec .claim (asking (.claim 3 true) .up (entryOf .acked .there))) =
        some (.claiming, [.ownReq 3 0 true]) := by decide +kernel

/-- R25, line by line. -/
theorem test_release_lines :
    firstStatus (exec .release (asking (.release 3) .up (entryOf .off .here))) = some .regionOff ∧
    firstStatus (exec .release (asking (.release 3) .up (entryOf .acked .granting))) = some .inProgress ∧
    firstStatus (exec .release (asking (.release 3) .up (entryOf .acked .there))) = some .notOwner ∧
    firstStatus (exec .release (asking (.release 3) .joining (entryOf .acked .here))) = some .linkNotUp ∧
    look (fun t => ((t.region 3).state, (t.region 3).releaseEntry, t.stream.list.map fun f => f.content))
      (exec .release (asking (.release 3) .up (entryOf .acked .here))) =
        some (.granting, some 0, [.ownGrant 3 1 none]) ∧
    look (fun t => t.dev.faultCode) (exec .release { asking (.release 3) .up (entryOf .cyclic .here) with
      mirror := badMirror }) = some .mirrorParity ∧
    look (fun t => (t.region 3).state) (exec .release (asking (.release 3) .up (entryOf .cyclic .here))) =
      some .granting := by decide +kernel

/-- R28: an UNHOLD grants the request that waits with a staging count of 0. -/
theorem test_unhold_grants :
    look (fun t => ((t.region 3).state, (t.region 3).held, t.stream.list.map fun f => f.content))
      (exec .unhold (asking (.unhold 3) .up { entryOf .acked .here with
        held := true, pending := some { noWait := false, timer := some 5 } })) =
        some (.granting, false, [.ownGrant 3 1 none]) ∧
    look (fun t => ((t.region 3).state, (t.region 3).held))
      (exec .unhold (asking (.unhold 3) .up { entryOf .acked .here with held := true })) = some (.here, false) := by
  decide +kernel

theorem test_hold_lines :
    firstStatus (exec .hold (asking (.hold 3) .off (entryOf .off .here))) = some .regionOff ∧
    firstStatus (exec .hold (asking (.hold 3) .off (entryOf .acked .there))) = some .notOwner ∧
    look (fun t => (t.region 3).held) (exec .hold (asking (.hold 3) .off (entryOf .acked .here))) = some true := by
  decide +kernel

theorem test_set_class_lines :
    firstStatus (exec .setClass (asking (.setClass 3 .acked true) .seeking (entryOf .off .there))) = some .linkState ∧
    firstStatus (exec .setClass (asking (.setClass 3 .acked true) .rejected (entryOf .acked .granting))) =
      some .inProgress ∧
    look (fun t => ((t.region 3).cls, (t.region 3).state, (t.region 3).stale))
      (exec .setClass (asking (.setClass 3 .cyclic false) .off (entryOf .off .here))) = some (.cyclic, .there, true) := by
  decide +kernel

/-- A watch of all of region 3. -/
def watch3 : WatchSpec := { WatchSpec.zero with region := 3, last := 63 }

theorem test_watch_lines :
    firstStatus (exec .watchSet (asking (.watchSet 15 watch3) .off (entryOf .off .there))) = some .regionOff ∧
    look (fun t => t.watched 3) (exec .watchSet (asking (.watchSet 15 watch3) .off (entryOf .acked .there))) =
      some true ∧
    firstStatus (exec .watchClear (asking (.watchClear 0) .off (entryOf .acked .there))) = some .ok := by
  decide +kernel

theorem test_link_up_down :
    look (fun t => t.link.state) (exec .linkUp (asking .linkUp .rejected (entryOf .off .there))) = some .seeking ∧
    look (fun t => t.link.state) (exec .linkUp (asking .linkUp .joining (entryOf .off .there))) = some .joining ∧
    look (fun t => t.link.state) (exec .linkDown (asking .linkDown .off (entryOf .off .there))) = some .off ∧
    look (fun t => (t.link.state, t.framer.bye)) (exec .linkDown (asking .linkDown .rejected (entryOf .off .there))) =
      some (.off, none) ∧
    look (fun t => (t.link.state, t.framer.bye, t.link.epoch))
      (exec .linkDown (asking .linkDown .up (entryOf .off .there))) = some (.off, some 0, 1) := by decide +kernel

/-! ## Link loss and transfers (O28, O29) -/

/-- A part in UP with a CLAIM, a RELEASE, a WRITE with WAIT_REMOTE and a FENCE that all wait. -/
def waitingAll : State :=
  let s := (linked .up).withRegion 1 { entryOf .acked .claiming with claimEntry := some 1 }
  let s := s.withRegion 2 { entryOf .acked .granting with releaseEntry := some 2 }
  let waits := fun c => { slotOf c with phase := .awaitingEvent }
  { s with
    cmd.oct := (((s.cmd.oct.set 1 (some (waits (.claim 1 false)))).set 2 (some (waits (.release 2)))).set 3
      (some (waits (writeCmd true)))).set 4 (some { waits .fence with mark := some 0 })
    stream.list := [{ content := .update 3 62 [5, 6] true false false, seq := 0, sent := true, resend := false,
                      owner := some 3 }]
    stream.nextSeq := 1 }

theorem test_witness_loss :
    waitingAll.stream.waitWrite = false ∧
    ((waitingAll.region 1).state = .claiming ∧ (waitingAll.region 1).claimEntry = some 1 ∧
      (waitingAll.entry 1).isSome = true) ∧
    ((waitingAll.region 2).state = .granting ∧ (waitingAll.region 2).releaseEntry = some 2 ∧
      (waitingAll.entry 2).isSome = true) ∧
    (waitingAll.stream.list.map (fun f => (f.content, f.owner)) =
      [(.update 3 62 [5, 6] true false false, some 3)] ∧ (waitingAll.entry 3).isSome = true) ∧
    ((waitingAll.entry 4).map (fun e => (e.command, e.phase, e.mark)) = some (.fence, .awaitingEvent, some 0) ∧
      ∀ f ∈ waitingAll.stream.list, f.owner ≠ some 4) := by decide +kernel

/-- A buffered WRITE whose transfer is under way, in a device state and a phase. -/
def fetching (d : DeviceState) (p : Phase) : State :=
  { headOf (at3 run (entryOf .acked .here)) { buffered with phase := p } with
    dev := { DeviceBlock.reset with state := d, setup := some params }
    cmd.staging := Vector.replicate 8 (some { entry := 0, words := [], arrived := false, error := false }) }

theorem test_witness_staging :
    ((fetching .running .queued).cmd.staging[(7 : Fin 8)] =
      some { entry := 0, words := [], arrived := false, error := false } ∧
      (fetching .running .queued).cmd.oct[(0 : Fin 32)] = some buffered ∧ [0#8, 0, 0, 0, 0, 0, 0, 0].length = 4 * 2) ∧
    ((fetching .running .executingWait).cmd.queue.head? = some 0 ∧ (fetching .stopping .queued).dev.state = .stopping) ∧
    firstStatus (exec (.stagingTransferDone 0 (some ([5, 0, 0, 0, 6, 0, 0, 0].map some))) (fetching .running .executingWait)) =
      some .okLocal ∧
    firstStatus (exec (.stagingTransferDone 0 none) (fetching .stopping .queued)) = some .aborted := by decide +kernel

/-! ## The framer (O30 to O34) -/

/-- A part in UP with an offered snapshot of region 3 and one unsent frame. -/
def sendingState (turn : Nat) (e : RegionEntry) : State :=
  { at3 (linked .up) e with
    sweep.offered := some 3
    sweep.cursor := some 3
    framer.turnCount := turn
    stream.list := [{ content := .syncDone, seq := 0, sent := false, resend := false, owner := none }]
    stream.nextSeq := 1 }

/-- The kind of the frame that a FRAME_TAKE puts in transmission. -/
def taken (s : State) : Option Nat :=
  (look (fun t => t.framer.transmitting.map fun f => f.body.kindCode) (exec .frameTake s)).join

/-- A HELLO that waits. -/
def waitingHello : HelloBody := { nodeId := 7, heard := none, joined := false, content := run.presentContent }

/-- R109's order: BYE, HELLO, sequenced, ACK, SNAPSHOT, IDLE; R110's limit of four. -/
theorem test_arbiter_order :
    taken { inState .halted with framer.bye := some 1 } = some 10 ∧
    taken { linked .seeking with framer.hello := some waitingHello } = some 1 ∧
    taken (sendingState 3 (entryOf .cyclic .here)) = some 6 ∧
    taken { linked .up with stream.ackDue := true } = some 7 ∧
    taken (sendingState 4 (entryOf .cyclic .here)) = some 8 ∧
    taken { linked .up with framer.idleDue := true } = some 9 ∧
    taken (linked .up) = none ∧
    taken (sendingState 4 (entryOf .cyclic .granting)) = some 6 := by decide +kernel

/-- R81: in FAULTED the BYE of R100 goes and one of an earlier loss stays, to go after CLEAR_FAULT (R114). -/
theorem test_bye_in_faulted :
    let earlier : State := { inState .faulted with framer.bye := some 1, link.state := .seeking }
    taken { earlier with link.state := .up } = some 10 ∧ taken earlier = none ∧
    look (fun t => (t.framer.bye, taken t)) (exec .clearFault earlier) = some (some 1, some 10) := by decide +kernel

theorem test_witness_frame_take :
    ((linked .up).Works ∧ (linked .up).framer.transmitting = none ∧ (linked .up).framer.bye = none ∧
      (linked .up).streaming = true ∧ (linked .up).link.confirmDue = false) ∧
    ((sendingState 3 (entryOf .cyclic .here)).offeredIndex = some 0 ∧
      (sendingState 3 (entryOf .cyclic .here)).framer.turnCount < 4) ∧
    ((sendingState 4 (entryOf .cyclic .here)).sweep.offered = some 3 ∧
      (sendingState 4 (entryOf .cyclic .here)).stream.ackDue = false ∧
      4 ≤ (sendingState 4 (entryOf .cyclic .here)).framer.turnCount) ∧
    ((linked .up).offeredIndex = none ∧ (linked .up).sweep.offered = none ∧ (linked .up).stream.ackDue = false) ∧
    ((inState .halted).working = false ∧ (inState .halted).framer.bye = none) ∧
    ((linked .seeking).streaming = false) ∧
    (({ run with framer.transmitting := some { epoch := 0, body := .bye } } : State).framer.transmitting.isSome = true) ∧
    ((at3 run (entryOf .cyclic .here)).sweepTarget 4 = none ∧ (at3 run (entryOf .cyclic .here)).sweepTarget 3 = some 3) := by
  simp only [State.Works]
  decide +kernel

/-- An assembly with an IDLE of epoch 1 whole. -/
def idleBytes : List Byte := Frame.bytes { epoch := 1, body := .idle }

theorem test_idle_received :
    look (fun t => (t.framer.heldFrames, t.counter .framesReceived))
      (exec (.receiveFrameEnd false) { run with framer.assembly := some { bytes := idleBytes, discard := false } }) =
        some ([{ epoch := 1, body := .idle }], 1) ∧
    look (fun t => (t.framer.heldFrames, t.counter .framesBad))
      (exec (.receiveFrameEnd false) { run with framer.assembly := some { bytes := 0 :: idleBytes, discard := false } }) =
        some ([], 1) := by decide +kernel

theorem test_witness_assembly :
    (run.Works ∧ run.framer.assembly = none) ∧
    ({ run with framer.assembly := some { bytes := List.replicate 296 0, discard := false } } : State).Works ∧
    (checkFrame idleBytes = some { epoch := 1, body := .idle } ∧ checkFrame (0 :: idleBytes) = none) ∧
    (inState .halted).working = false ∧ (FrameBody.idle).permitted = true ∧
    (idleBytes = [] ++ 9 :: idleBytes.tail ∧ (9 : Byte) ≠ 8) := by
  simp only [State.Works]
  decide +kernel

/-! ## The Link Controller (O35 to O40) -/

/-- The HELLO that a part in JOINING sends. -/
def helloOf (s : State) (heard : Option (BitVec 16)) (joined : Bool) : HelloBody :=
  { nodeId := s.params.nodeId, heard := heard, joined := joined, content := s.fixedContent }

/-- A RUNNING part with a node id, an epoch and a region 3 in a state, in JOINING with a peer recorded. -/
def joiningPart (node peer epoch peerEpoch : BitVec 16) (e : RegionEntry) : State :=
  let s : State := at3 { run with
    dev := { DeviceBlock.reset with state := .running, setup := some { params with nodeId := node } }
    link := { LinkBlock.reset with
      state := .joining, epoch := epoch, peer := some { nodeId := peer, epoch := peerEpoch }, fresh := true } } e
  { s with link.fixed := some s.presentContent }

/-- The two parts of the reconcile example, with region 3 HERE at the first. -/
def partP : State := joiningPart 7 12 5 9 (entryOf .acked .here)
def partQ : State := joiningPart 12 7 9 5 (entryOf .acked .there)

/-- Each with the other's HELLO held. -/
def holdsP : State := { partP with framer.heldFrames := [{ epoch := 9, body := .hello (helloOf partQ (some 5) false) }] }
def holdsQ : State := { partQ with framer.heldFrames := [{ epoch := 5, body := .hello (helloOf partP (some 9) false) }] }

theorem test_witness_reconcile :
    holdsP.Holds { epoch := holdsQ.link.epoch, body := .hello (helloOf partQ (some 5) false) } [] ∧
    holdsQ.Holds { epoch := holdsP.link.epoch, body := .hello (helloOf partP (some 9) false) } [] ∧
    holdsP.link.state = .joining ∧ holdsQ.link.state = .joining ∧
    holdsP.link.peer = some { nodeId := holdsQ.params.nodeId, epoch := holdsQ.link.epoch } ∧
    holdsQ.link.peer = some { nodeId := holdsP.params.nodeId, epoch := holdsP.link.epoch } ∧
    holdsP.params.nodeId ≠ holdsQ.params.nodeId ∧ holdsP.link.fixed = some holdsP.fixedContent ∧
    (helloOf partP (some 9) false).content = holdsP.fixedContent ∧
    (helloOf partQ (some 5) false).content = holdsQ.fixedContent ∧
    (helloOf partQ (some 5) false).heard = some holdsP.link.epoch :=
  ⟨⟨⟨rfl, by decide⟩, rfl⟩, ⟨⟨rfl, by decide⟩, rfl⟩, rfl, rfl, rfl, rfl, by decide, rfl, rfl, rfl, rfl⟩

/-- The mirror of reset has no bad word. -/
theorem test_reset_mirror_good (a : Nat) : (State.reset.mirror.read a).good = true := by
  have h : (State.reset.mirror.read a) = .blank := rfl
  rw [h]
  decide

theorem test_join_completes :
    look (fun t => (t.link.state, (t.region 3).state, t.stream.list.length)) (exec .helloReceived holdsP) =
      some (.syncing, .here, 5) ∧
    look (fun t => (t.link.state, (t.region 3).state, t.stream.list.length)) (exec .helloReceived holdsQ) =
      some (.syncing, .there, 1) := by decide +kernel

/-- A part in a link state that holds a frame. -/
def holding (l : LinkState) (f : Frame) : State := { linked l with framer.heldFrames := [f] }

theorem holding_holds (l : LinkState) (f : Frame) : (holding l f).Holds f [] := ⟨⟨rfl, rfl⟩, rfl⟩

/-- A HELLO of node 12 with a content. -/
def hello12 (heard : Option (BitVec 16)) (joined : Bool) : HelloBody :=
  { nodeId := 12, heard := heard, joined := joined, content := run.presentContent }

/-- R87: one HELLO for each check and one that passes them all. -/
theorem test_hello_checks :
    (linked .seeking).parameterFailure { hello12 none false with nodeId := 7 } = some .sameNode ∧
    (linked .seeking).parameterFailure { hello12 none false with
      content := { run.presentContent with classMap := Vector.replicate 64 1 } } = some .classMap ∧
    (linked .seeking).parameterFailure { hello12 none false with
      content := { run.presentContent with sweepPeriod := 11 } } = some .sweepPeriod ∧
    (linked .seeking).parameterFailure (hello12 none false) = none := by decide +kernel

theorem test_witness_hello :
    ((holding .seeking { epoch := 1, body := .hello (hello12 none false) }).link.state = .seeking) ∧
    ((linked .off).link.state = .off) ∧
    ((linked .joining).link.peer = some { nodeId := (hello12 none false).nodeId, epoch := 9 } ∧
      (hello12 none false).heard ≠ some (linked .joining).link.epoch) ∧
    ((linked .joining).link.peer ≠ some { nodeId := (hello12 none false).nodeId, epoch := 8 } ∧
      (linked .joining).parameterFailure (hello12 none false) = none) ∧
    ((linked .up).streaming = true ∧ (linked .up).link.peer = some { nodeId := 12, epoch := 9 } ∧
      (hello12 (some 0) true).heard = some (linked .up).link.epoch ∧ (linked .up).link.confirmDue = false) := by
  decide +kernel

theorem test_hello_in_session :
    look (fun t => t.link.confirmDue)
      (exec .helloReceived (holding .up { epoch := 9, body := .hello (hello12 (some 0) false) })) = some true ∧
    look (fun t => t.link.confirmDue)
      (exec .helloReceived (holding .up { epoch := 9, body := .hello (hello12 (some 0) true) })) = some false ∧
    look (fun t => (t.link.state, t.link.epoch, t.link.peer))
      (exec .helloReceived (holding .up { epoch := 8, body := .hello (hello12 none false) })) =
        some (.joining, 1, some { nodeId := 12, epoch := 8 }) := by decide +kernel

theorem test_witness_filter :
    ((holding .off { epoch := 9, body := .idle }).link.state = .off ∧ (FrameBody.idle).isHello = false) ∧
    ((holding .joining { epoch := 8, body := .bye }).heardEpoch ≠ some 8) ∧
    ((holding .joining { epoch := 9, body := .ack 0 }).heardEpoch = some 9 ∧ FrameBody.ack 0 ≠ .bye) ∧
    ((holding .up { epoch := 9, body := .bye }).streaming = true ∧
      (holding .up { epoch := 9, body := .bye }).heardEpoch = some 9) := by decide +kernel

/-! ## Received frames (O39, O41 to O46) -/

/-- A part in UP with a list of frames, an entry at region 3, that holds a sequenced frame with number `seq`. Its
acknowledgement names no frame of the list. -/
def receiving (list : List TxEntry) (e : RegionEntry) (seq : BitVec 8) (content : SeqContent) : State :=
  let s : State := { at3 (linked .up) e with stream.list := list }
  { s with framer.heldFrames := [{ epoch := 9, body := .sequenced seq (s.oldestSeq - 1) content }] }

/-- Whatever list of at most 200 frames, entry and content, that state receives the frame, and the entry and the list
stand when it is dispatched: the hypotheses of the statements on received frames are met for every case of their
clauses. -/
theorem receiving_receives (list : List TxEntry) (e : RegionEntry) (seq : BitVec 8) (content : SeqContent)
    (h : list.length ≤ 200) : ∃ acked u, (receiving list e seq content).Receives seq acked content u ∧
      u.stream.expected = 0 ∧ u.stream.list = list ∧ u.region 3 = e := by
  let s : State := { at3 (linked .up) e with stream.list := list }
  have hu : ((receiving list e seq content).passed []).processAck (s.oldestSeq - 1) =
      (receiving list e seq content).passed [] := by
    have ho : ((receiving list e seq content).passed []).oldestSeq = s.oldestSeq := rfl
    have hd : ((s.oldestSeq - 1) - s.oldestSeq).toNat = 255 := by
      generalize s.oldestSeq = x
      have : x - 1 - x = 255#8 := by bv_omega
      rw [this]; rfl
    have hc : ((receiving list e seq content).passed []).sentCount ≤ 200 :=
      le_trans List.countP_le_length h
    unfold State.processAck
    simp only [ho, hd]
    rw [if_neg (by omega), if_neg (by omega)]
  refine ⟨s.oldestSeq - 1, (receiving list e seq content).passed [], ⟨rfl, show DeviceState.running ≠ .faulted by decide, 9, [],
    ⟨⟨rfl, rfl⟩, rfl⟩, rfl, hu.symm⟩, rfl, rfl, ?_⟩
  simp [receiving, State.passed, at3, State.withRegion, State.region]

/-- One frame outstanding for region 3. -/
def outstanding3 : List TxEntry := [{ content := .ownReq 3 0 false, seq := 0, sent := true, resend := false, owner := none }]

/-- A received frame leaves these events, this list of contents and region 3 in this state. -/
def answers (c : Instr) (s : State) (events : List Event) (contents : List SeqContent) (o : OwnState) : Bool :=
  match exec c s with
  | .next t => decide (t.notif.queue = events.map Submission.event) &&
      decide (t.stream.list.map (fun f => f.content) = contents) && decide ((t.region 3).state = o)
  | _ => false

theorem test_request_lines :
    answers .ownReqReceived (receiving [] (entryOf .off .here) 0 (.ownReq 3 0 false))
      [.protocolError .regionOff (some 3)] [] .here = true ∧
    answers .ownReqReceived (receiving [] (entryOf .acked .here) 0 (.ownReq 3 0 false))
      [] [.ownGrant 3 1 none] .granting = true ∧
    answers .ownReqReceived (receiving [] (entryOf .acked .here) 0 (.ownReq 3 1 false))
      [.protocolError .reqGeneration (some 3)] [.ownDeny 3 1] .here = true ∧
    answers .ownReqReceived (receiving [] { entryOf .acked .here with held := true } 0 (.ownReq 3 0 true))
      [] [.ownDeny 3 2] .here = true ∧
    answers .ownReqReceived (receiving [] { entryOf .acked .here with stagingCount := 1 } 0 (.ownReq 3 0 true))
      [] [.ownDeny 3 3] .here = true ∧
    answers .ownReqReceived (receiving [] (entryOf .acked .there) 0 (.ownReq 3 0 false))
      [] [.ownDeny 3 1] .there = true ∧
    answers .ownReqReceived (receiving outstanding3 (entryOf .acked .claiming) 0 (.ownReq 3 0 false))
      [.protocolError .reqInClaiming (some 3)] [.ownReq 3 0 false] .claiming = true ∧
    look (fun t => (t.region 3).pending)
      (exec .ownReqReceived (receiving [] { entryOf .acked .here with held := true } 0 (.ownReq 3 0 false))) =
        some (some { noWait := false, timer := some 100 }) := by
  refine ⟨?_, ?_, ?_, ?_, ?_, ?_, ?_, ?_⟩ <;> decide +kernel

theorem test_witness_requests :
    (∃ t ∈ outstanding3, t.content.handsOver 3 = true) ∧
    (¬ ∃ t ∈ ([] : List TxEntry), t.content.handsOver 3 = true) ∧
    (run.params.deferralLimit ≠ 0 ∧ (4294967295#32 : BitVec 32) = 4294967295#32) :=
  ⟨⟨_, List.mem_cons_self, rfl⟩, by simp, by decide, rfl⟩

/-- A part that claims region 3 and holds a frame. -/
def claiming3 (content : SeqContent) : State :=
  { receiving [] { entryOf .acked .claiming with claimEntry := some 0 } 0 content with
    cmd.oct := Vector.replicate 32 (some (slotOf (.claim 3 false))) }

theorem test_grant_lines :
    answers .ownGrantReceived (receiving [] (entryOf .acked .here) 0 (.ownGrant 3 1 none))
      [.protocolError .grantUnexpected (some 3)] [] .here = true ∧
    answers .ownGrantReceived (receiving [] (entryOf .acked .there) 0 (.ownGrant 3 2 none))
      [.protocolError .grantGeneration (some 3)] [] .there = true ∧
    answers .ownGrantReceived (receiving [] (entryOf .cyclic .there) 0 (.ownGrant 3 1 none))
      [.protocolError .grantContent (some 3)] [] .there = true ∧
    answers .ownGrantReceived (receiving [] (entryOf .acked .there) 0 (.ownGrant 3 1 none))
      [.ownershipArrived 3 true] [] .here = true ∧
    firstStatus (exec .ownGrantReceived (claiming3 (.ownGrant 3 1 none))) = some .ok := by
  refine ⟨?_, ?_, ?_, ?_, ?_⟩ <;> decide +kernel

theorem test_deny_lines :
    firstStatus (exec .ownDenyReceived (claiming3 (.ownDeny 3 2))) = some .denied ∧
    answers .ownDenyReceived (receiving [] (entryOf .acked .there) 0 (.ownDeny 3 2))
      [] [] .there = true ∧
    answers .ownDenyReceived (receiving [] (entryOf .off .there) 0 (.ownDeny 3 2))
      [.protocolError .regionOff (some 3)] [] .there = true := by decide +kernel

theorem test_update_lines :
    answers .updateReceived (receiving [] (entryOf .acked .there) 0 (.update 64 0 [1] true false false))
      [.protocolError .regionRange (some 64)] [] .there = true ∧
    answers .updateReceived (receiving [] (entryOf .acked .there) 0 (.update 3 63 [1, 2] true false false))
      [.protocolError .updateRange (some 3)] [] .there = true ∧
    answers .updateReceived (receiving [] (entryOf .cyclic .there) 0 (.update 3 63 [1] true false false))
      [.protocolError .updateClass (some 3)] [] .there = true ∧
    answers .updateReceived (receiving [] (entryOf .acked .here) 0 (.update 3 63 [1] true false false))
      [.protocolError .updateState (some 3)] [] .here = true ∧
    look (fun t => ((t.region 3).stale, (t.mirror.read 255).value))
      (exec .updateReceived (receiving [] { entryOf .acked .there with stale := true } 0
        (.update 3 63 [1] false true true))) = some (false, 1) := by decide +kernel

theorem test_sequence_lines :
    look (fun t => (t.counter .outOfOrder, t.stream.ackDue))
      (exec .syncDoneReceived (receiving [] (entryOf .off .there) 127 .syncDone)) = some (1, false) ∧
    look (fun t => (t.counter .duplicates, t.stream.ackDue))
      (exec .syncDoneReceived (receiving [] (entryOf .off .there) 128 .syncDone)) = some (1, true) := by decide +kernel

/-- A part in SYNCING, with its sync-sent flag, that holds the peer's SYNC_DONE. -/
def syncing (sent received : Bool) : State :=
  { holding .syncing { epoch := 9, body := .sequenced 0 255 .syncDone } with
    link.syncSent := sent, link.syncReceived := received }

theorem test_sync_lines :
    look (fun t => (t.link.state, t.link.syncReceived)) (exec .syncDoneReceived (syncing false false)) =
      some (.syncing, true) ∧
    look (fun t => (t.link.state, t.notif.queue)) (exec .syncDoneReceived (syncing true false)) =
      some (.up, [.event .linkUp]) ∧
    look (fun t => t.notif.queue) (exec .syncDoneReceived (syncing true true)) =
      some [.event (.protocolError .syncRepeated none)] := by decide +kernel

theorem test_witness_sync : (syncing true false).Receives 0 255 .syncDone ((syncing true false).passed []) :=
  ⟨rfl, by decide, 9, [], ⟨⟨rfl, rfl⟩, rfl⟩, rfl, rfl⟩

/-- A list with an UPDATE of a WRITE, an OWN_GRANT and a SYNC_DONE, all sent. -/
def sentList : List TxEntry :=
  [{ content := .update 3 62 [5, 6] true false false, seq := 0, sent := true, resend := false, owner := some 3 },
   { content := .ownGrant 2 1 none, seq := 1, sent := true, resend := false, owner := none },
   { content := .syncDone, seq := 2, sent := true, resend := false, owner := none }]

/-- The waiting commands of `waitingAll`, with that list, in SYNCING. -/
def acking : State :=
  { waitingAll with link.state := .syncing, link.syncReceived := true, stream.list := sentList, stream.nextSeq := 3 }

theorem test_witness_ack :
    ((2#8 - acking.oldestSeq).toNat < acking.sentCount ∧ acking.waitingRequesters = []) ∧
    (acking.sentCount ≤ (3#8 - acking.oldestSeq).toNat ∧ (3#8 - acking.oldestSeq).toNat ≤ 127) ∧
    (128 ≤ (255#8 - acking.oldestSeq).toNat) ∧
    (acking.entry 3).isSome = true ∧ (acking.region 2).state = .granting ∧ (acking.region 2).releaseEntry = some 2 ∧
    acking.link.syncReceived = true ∧ (∀ f ∈ acking.stream.list, f.owner ≠ some 4) ∧
    (∀ r : Fin 64, (acking.region r).releaseEntry ≠ some 4) := by decide +kernel

theorem test_ack_taken :
    let t := acking.processAck 2
    (t.link.state, t.stream.list, (t.region 2).state, (t.region 2).generation, t.rings.posting.map fun c => c.status) =
      (.up, [], .there, 1, [.ok, .ok, .ok]) := by decide +kernel

/-- A SNAPSHOT of region 3. -/
def snap (sweep : BitVec 16) (e : RegionEntry) : State :=
  at3 (holding .up { epoch := 9, body := .snapshot 3 sweep 0 (List.replicate 64 1) }) e

theorem test_snapshot_lines :
    look (fun t => ((t.region 3).lastSweep, (t.region 3).stale, t.notif.queue))
      (exec .snapshotReceived (snap 1 { entryOf .cyclic .there with stale := true, lastSweep := some 0 })) =
        some (some 1, false, [.event (.cyclicFresh 3)]) ∧
    look (fun t => t.counter .snapshotsStale)
      (exec .snapshotReceived (snap 0 { entryOf .cyclic .there with lastSweep := some 0 })) = some 1 ∧
    look (fun t => t.counter .snapshotsStale) (exec .snapshotReceived (snap 1 (entryOf .acked .there))) = some 1 := by
  decide +kernel

theorem test_witness_snapshot :
    (snap 1 (entryOf .cyclic .there)).Holds
      { epoch := 9, body := .snapshot (BitVec.ofNat 8 (3 : Fin 64).val) 1 0 (List.replicate 64 1) } [] ∧ (snap 1 (entryOf .cyclic .there)).streaming = true ∧
    (snap 1 (entryOf .cyclic .there)).heardEpoch = some 9 ∧ 64 ≤ (64 : Byte).toNat :=
  ⟨⟨⟨rfl, rfl⟩, rfl⟩, rfl, rfl, by decide⟩

/-! ## Timers (O40, O48 to O50) -/

theorem test_witness_timers :
    (({ linked .seeking with link.helloTimer := some 10 } : State).link.helloTimer = some 10) ∧
    (({ linked .joining with link.silenceTimer := some 40 } : State).link.silenceTimer = some 40) ∧
    (({ linked .up with framer.quietTimer := some 10 } : State).framer.quietTimer = some 10) ∧
    (run.link.helloTimer = none ∧ run.link.silenceTimer = none ∧ run.framer.quietTimer = none ∧
      run.stream.timer = none ∧ run.sweep.timer = none ∧ (run.region 63).pending = none) := by decide +kernel

/-- A retransmission timer that runs with a retry count. -/
def retrying (l : LinkState) (count : Nat) : State :=
  { linked l with stream.timer := some 20, stream.retryCount := count, stream.list := sentList }

theorem test_retransmission :
    look (fun t => (t.stream.retryCount, t.stream.list.map fun f => f.resend))
      (exec .retransmissionTimerExpiry (retrying .up 2)) = some (3, [true, true, true]) ∧
    look (fun t => t.stream.retryCount) (exec .retransmissionTimerExpiry (retrying .syncing 3)) = some 3 ∧
    look (fun t => (t.link.state, t.stream.list.length)) (exec .retransmissionTimerExpiry (retrying .up 3)) =
      some (.seeking, 0) := by decide +kernel

theorem test_deferral_expiry :
    look (fun t => (t.notif.queue, t.stream.list.map fun f => f.content)) (exec (.deferralTimerExpiry 3)
      (at3 (linked .up) { entryOf .acked .here with held := true, pending := some { noWait := false, timer := some 1 } })) =
        some ([.event (.deferralExpired 3)], [.ownDeny 3 2]) := by decide +kernel

/-- A sweep timer that runs, over an entry at region 3. -/
def sweeping (cursor : Option (Fin 64)) (e : RegionEntry) : State :=
  { at3 (linked .up) e with sweep.timer := some 10, sweep.cursor := cursor }

theorem test_sweep_expiry :
    look (fun t => (t.sweep.offered, t.sweep.number)) (exec .sweepTimerExpiry (sweeping none (entryOf .cyclic .here))) =
      some (some 3, 1) ∧
    look (fun t => ((t.region 3).age, (t.region 3).stale, t.notif.queue))
      (exec .sweepTimerExpiry (sweeping none { entryOf .cyclic .there with age := 2 })) =
        some (3, true, [.event (.cyclicStale 3)]) ∧
    look (fun t => (t.sweep.pending, t.counter .sweepOverruns, t.notif.queue))
      (exec .sweepTimerExpiry (sweeping (some 3) (entryOf .cyclic .here))) =
        some (true, 1, [.event (.sweepOverrun 1)]) := by decide +kernel

/-! ## Watches and notifications (O51, O52) -/

/-- A part with a watch of region 3 in slot 0 and a report of a change there. -/
def watching : State :=
  { run with
    watch.table := run.watch.table.set 0 { armed := true, spec := { watch3 with oneShot := true } }
    watch.reports := [{ region := 3, first := 62, source := .peer, before := [0, 0], after := [0, 7] }] }

theorem test_watch_fires :
    look (fun t => (t.notif.queue, t.watch.table[(0 : Fin 16)].armed)) (exec .watchEvaluation watching) =
      some ([.watch 0 3 63 7 1 .peer], false) := by decide +kernel

theorem test_witness_watch :
    watching.Works ∧ (∃ p rest, watching.watch.reports = p :: rest ∧ p.before.length = p.after.length) :=
  ⟨⟨rfl, rfl⟩, _, _, rfl, rfl⟩

/-- A part with one submission waiting, a policy and a number of records unconsumed. -/
def notifying (p : Policy) (post : Nat) (frozen : Bool) : State :=
  { run with
    dev.setup := some { params with policy := p }
    notif := { NotifyBlock.reset with queue := [.event .linkUp], post := post, number := 15, frozen := frozen } }

/-- The frozen-ring example of 9.4: the record that meets the full ring is lost and freezes the ring. -/
theorem test_notification_policies :
    look (fun t => (t.notif.frozen, t.notif.lost, t.notif.number, t.notif.writing.isSome))
      (exec .notificationTake (notifying .freeze 15 false)) = some (true, 1, 16, false) ∧
    look (fun t => (t.notif.lost, t.notif.writing.isSome)) (exec .notificationTake (notifying .dropNew 15 false)) =
      some (1, false) ∧
    look (fun t => (t.notif.consumer, t.notif.writing.map fun r => r.lost))
      (exec .notificationTake (notifying .overwriteOld 15 false)) = some (1, some 1) ∧
    look (fun t => t.notif.writing.isSome) (exec .notificationTake (notifying .dropNew 14 false)) = some true := by
  decide +kernel

theorem test_witness_notify :
    ((notifying .freeze 15 false).Works ∧ (notifying .freeze 15 false).notif.writing = none ∧
      (notifying .freeze 15 false).params.notifySize ≤ (notifying .freeze 15 false).notifyUnconsumed + 1) ∧
    (¬ (notifying .freeze 14 true).params.notifySize ≤ (notifying .freeze 14 true).notifyUnconsumed + 1 ∧
      (notifying .freeze 14 true).notif.frozen = true) ∧
    (({ run with notif.writing := some { number := 0, lost := 0, body := .event .linkUp } } : State).Works ∧
      ({ run with notif.writing := some { number := 0, lost := 0, body := .event .linkUp } } : State).notif.writing =
        some { number := 0, lost := 0, body := .event .linkUp }) := by
  simp only [State.Works]
  decide +kernel

/-! ## Faults and invariants (O53 to O59) -/

/-- A FAULTED part with its timers stopped. -/
theorem test_witness_faulted :
    (inState .faulted).dev.perst = false ∧ (inState .faulted).dev.state = .faulted ∧ (inState .faulted).FaultStopped :=
  ⟨rfl, rfl, fun _ => ⟨rfl, rfl, rfl, rfl, rfl, rfl, fun r q h => by
    have : ∀ r : Fin 64, ((inState .faulted).region r).pending = none := by decide +kernel
    rw [this r] at h
    exact nomatch h⟩⟩

/-- A state in which the invariants say something: a pending request, a sent frame, and a step that answers. -/
theorem test_witness_invariants :
    (run.withFront .nop).MirrorFormed ∧ (run.withFront .nop).LinkRests ∧ (run.withFront .nop).FaultStopped ∧
    look (fun t => t.pending) (step (run.withFront .nop)) = some [] :=
  ⟨⟨rfl, rfl⟩, fun h => by revert h; decide, fun h => by revert h; decide, by decide +kernel⟩

/-- A state with a pending request in HERE and a list of three sent frames meets the other invariants. -/
theorem test_witness_list_invariants :
    ({ acking with regions := (at3 run { entryOf .acked .here with
        pending := some { noWait := false, timer := some 1 } }).regions } : State).FlagsFit ∧
    acking.ListNumbered ∧ acking.HandOverSingle ∧ acking.WindowKept := by
  refine ⟨?_, ⟨by decide +kernel, ?_⟩, ?_, by decide +kernel, ?_, ?_⟩
  · unfold State.FlagsFit
    decide +kernel
  · intro k t h
    have hl : acking.stream.list = sentList := rfl
    rw [hl] at h ⊢
    match k, h with
    | 0, h => injection h with h; subst h; decide +kernel
    | 1, h => injection h with h; subst h; decide +kernel
    | 2, h => injection h with h; subst h; decide +kernel
    | k + 3, h => simp [sentList] at h
  · unfold State.HandOverSingle
    decide +kernel
  · decide +kernel
  · decide +kernel

/-- A state with an OWN_REQ of this part outstanding and a request pending for another region keeps both at one. -/
theorem test_witness_hand_over :
    let s := { acking with
      stream.list := outstanding3
      regions := run.regions.set 4 { entryOf .acked .here with pending := some { noWait := false, timer := some 1 } }
      pending := [.nop] }
    s.FlagsFit ∧ s.HandOverSingle ∧ s.outstanding 3 = true ∧ look (fun t => t.pending) (step s) = some [] := by
  refine ⟨?_, ?_, by decide +kernel, by decide +kernel⟩
  · unfold State.FlagsFit
    decide +kernel
  · unfold State.HandOverSingle
    decide +kernel

/-! ## Further clauses (O5, O7, O10 to O13) -/

/-- 11.2: IDENT, STATUS of a FAULTED part with a code, a write-only register, one byte of SETUP_LO, a read of 64 bits. -/
theorem test_register_reads :
    run.readWindow 0x000 4 = some [0x47, 0x4B, 0xD6, 0x01] ∧
    ({ inState .faulted with dev.faultCode := .badPost } : State).readWindow 0x008 4 = some [5, 3, 0, 0] ∧
    run.readWindow 0x014 4 = some [0, 0, 0, 0] ∧
    ({ run with dev.setupLo := 0x04030201 } : State).readWindow 0x00D 1 = some [2] ∧
    ({ run with dev.setupLo := 0x04030201, dev.setupHi := 7 } : State).readWindow 0x00C 8 = some [1, 2, 3, 4, 7, 0, 0, 0] ∧
    ({ run with dev.perst := true } : State).readWindow 0 4 = none ∧
    (linked .up).linkUpPin = true ∧ (linked .syncing).linkUpPin = false ∧
    ({ linked .up with dev.state := .faulted } : State).linkUpPin = false := by decide +kernel

/-- A RUNNING part with these entries in places 0, 1, 2. -/
def admitted (a b c : OctEntry) : State :=
  { at3 run { entryOf .acked .here with stagingCount := 1 } with
    cmd.oct := ((run.cmd.oct.set 0 (some a)).set 1 (some b)).set 2 (some c)
    cmd.queue := [2, 1, 0] }

/-- R154: a READ and a queued STATS are aborted in the order of their entries, each with its place; the STATS that
transfers at the head stays, with its copy. -/
theorem test_stop_aborts :
    let s : State := { admitted readSlot (slotOf (.stats 64 true)) { slotOf (.stats 64 true) with phase := .executingWait } with
      cmd.buffers := Vector.replicate 4 (some { entry := 0, capture := none })
      cmd.statsCopy := some (Vector.replicate 12 0) }
    s.Runs ∧
    look (fun t => (t.rings.posting.map fun c => (c.status, c.entry), t.cmd.queue, t.cmd.statsCopy.isSome))
      (exec .stop s) = some ([(.aborted, some 0), (.aborted, some 1)], [2], true) ∧
    look (fun t => (t.cmd.buffers[(0 : Fin 4)], t.dev.state)) (exec .stop s) = some (none, .stopping) :=
  ⟨⟨rfl, rfl⟩, by decide +kernel, by decide +kernel⟩

/-- R154: an inline WRITE is aborted and gives up its place in the staging count; one whose transfer runs waits for it. -/
theorem test_stop_aborts_write :
    look (fun t => (t.rings.posting.map fun c => (c.status, c.entry), (t.region 3).stagingCount))
      (exec .stop (admitted (slotOf (writeCmd false)) { slotOf .nop with phase := .completed }
        { slotOf .nop with phase := .completed })) = some ([(.aborted, some 0)], 0) ∧
    look (fun t => (t.rings.posting.length, (t.region 3).stagingCount))
      (exec .stop { admitted buffered { slotOf .nop with phase := .completed } { slotOf .nop with phase := .completed } with
        cmd.staging := Vector.replicate 8 (some { entry := 0, words := [], arrived := false, error := false }) }) =
        some (0, 1) := by decide +kernel

theorem test_witness_stop_reports :
    (inState .stopping).dev.perst = false ∧ (inState .stopping).dev.state = .stopping ∧
    look (fun t => (t.dev.rmReport, t.dev.state)) (exec .ringManagerStopReport (inState .stopping)) =
      some (true, .stopping) ∧
    look (fun t => (t.dev.npReport, t.dev.state)) (exec .notificationStopReport { inState .stopping with
      dev.rmReport := true }) = some (true, .halted) := by decide +kernel

/-- Completion slot 0 and slot 0 of the URGENT ring at one address, with a completion to post and a fetch that runs. -/
def overlapping : State :=
  { run with
    rings.posting := [{ ring := .normal, tag := 0x1234, status := .ok, info := .zero, entry := none }]
    rings.urgent.fetching := true }

/-- R189: the part reads back what it wrote, a byte that the host put there goes before it, and the write of a completion
shows in the record that is fetched after it. -/
theorem test_host_memory :
    (HostMemory.store [] 0xFFFFFFFFFFFFFFFF#64 [1, 2]).load 0xFFFFFFFFFFFFFFFF#64 [none, none] = [1, 2] ∧
    (HostMemory.store [] 8 [1, 2]).load 8 [some 9, none] = [9, 2] ∧
    (overlapping.Runs ∧ (overlapping.subRing .urgent).fetching = true ∧
      overlapping.ringBase .urgent + BitVec.ofNat 64 (32 * (overlapping.subRing .urgent).fetch) =
        overlapping.params.completionBase + BitVec.ofNat 64 (16 * overlapping.rings.post)) ∧
    (look (fun t => look (fun u => (u.rings.urgent.copy.getD []).take 4)
      (exec (.recordFetchDone .urgent (some (Vector.replicate 32 none))) t))
      (exec (.completionWriteDone true) overlapping)).join = some [0x34, 0x12, 0, 3] := by
  simp only [State.Runs]
  refine ⟨?_, ?_, ⟨⟨?_, ?_⟩, ?_, ?_⟩, ?_⟩ <;> decide +kernel

/-- R122, R145: the take of a WRITE from a buffer begins its staging read and the fetch of the next record; a refusal
begins the fetch. -/
theorem test_presentation_reads :
    let s (b : List Byte) := { withCopy b (entryOf .acked .here) with rings.urgent.producer := 2 }
    look (fun t => (t.emitted, t.rings.urgent.fetching)) (exec .recordPresentation (s (recordOf 2 0 3 60 4))) =
      some ([.hostRead 0 16, .hostRead 32 32], true) ∧
    look (fun t => (t.emitted, t.rings.posting.map fun c => c.status))
      (exec .recordPresentation (s (recordOf 2 0 3 61 4))) = some ([.hostRead 32 32], [.badRange]) := by decide +kernel

/-- Records of each side of the checks of R116, with the layout of 11.4: one that passes, and one that fails each. -/
theorem test_witness_record_checks :
    let s := withCopy [] (entryOf .acked .here)
    (recordOf 2 1 3 60 4).length = 32 ∧
    commandOf (recordOf 2 1 3 60 4) = .write 3 60 4 (.inline [0, 0, 0, 0]) false ∧
    commandOf (recordOf 11 1 3 2 0) = .setClass 3 .cyclic true ∧
    commandOf (recordOf 12 3 3 4 5) = .watchSet 0
      { region := 3, first := 4, last := 8, isMatch := true, both := true, oneShot := false, mask := 0, value := 0 } ∧
    recordTag (recordOf 2 1 3 60 4) = halfAt (recordOf 2 1 3 60 4) 2 ∧
    checked s (recordOf 11 0 3 2 0) = none ∧
    checked { s with dev.setup := some { params with sweepPeriod := 0 } } (recordOf 11 0 3 2 0) = some .badRange ∧
    checked s (recordOf 11 0 3 3 0) = some .badRange ∧ checked s (recordOf 6 0 64 0 0) = some .badRange ∧
    checked s (recordOf 1 0 1 0 0) = some .badCommand := by decide +kernel

/-- The setup error that a block gives. -/
def setupErrorOf (b : Vector Byte 128) : Option SetupError :=
  match validateSetup b.toList with
  | .ok _ => none
  | .error e => some e

/-- R177: one block for each error that a block can give, in the order of the checks. -/
theorem test_setup_checks :
    [setupBlock.set 0 0, setupBlock.set 1 2, setupBlock.set 0x18 1, setupBlock.set 0x12 8, setupBlock.set 2 0,
      setupBlock.set 4 33, setupBlock.set 5 0, setupBlock.set 6 16, setupBlock.set 7 0, setupBlock.set 0x7F 2,
      setupBlock.set 0x0B 3, (setupBlock.set 0x41 3).set 8 1].map setupErrorOf =
    [SetupError.version, .reserved, .ringBase, .ringSize, .nodeId, .window, .ackTimeout, .retryLimit, .helloInterval,
      .sweepPeriod, .policy, .region].map some ∧
    setupErrorOf (setupBlock.set 0x7F 4) = none ∧ setupErrorOf ((setupBlock.set 4 0).set 2 0) = some .nodeId := by
  decide +kernel

/-! ## Further clauses (O16, O24, O28 to O31) -/

/-- R29: what a WRITE leaves when it gives up a staging slot that a ring waits for, and the states on each side of a
grant: due and ACKED, due and CYCLIC with good and with bad parity, and not due. -/
theorem test_witness_grant :
    let due (c : RegionClass) : State := at3 (linked .up)
      { entryOf c .here with pending := some { noWait := false, timer := some 5 } }
    ((staged true false).writeWords buffered (.buffer 64) = [5, 6] ∧ buffered.staging = some 0 ∧
      (staged true false).cmd.staging[(0 : Fin 8)] = some { entry := 0, words := [5, 6], arrived := true, error := false }) ∧
    (({ staged true false with rings.urgent.waiting := some .stagingSlot } : State).unstaged 3 buffered).rings.urgent.waiting
      = none ∧
    (((due .acked).grantIfDue 3).region 3).state = .granting ∧
    (((due .cyclic).grantIfDue 3).stream.list.map fun f => f.content) =
      [.ownGrant 3 1 (some (List.replicate 64 0))] ∧
    ({ due .cyclic with mirror := badMirror } : State).working = true ∧
    (({ due .cyclic with mirror := badMirror } : State).grantIfDue 3).dev.faultCode = .mirrorParity ∧
    (((at3 (linked .up) (entryOf .acked .here)).grantIfDue 3).region 3).state = .here := by decide +kernel

/-- R15: a region in CLAIMING with the link UP. -/
theorem test_set_class_claiming :
    firstStatus (exec .setClass (asking (.setClass 3 .off false) .up (entryOf .acked .claiming))) = some .linkState := by
  decide +kernel

/-- A WRITE at the head that waits for room, in UP, with 95 UPDATE frames in the list that end no command. -/
def waitingWrite (waitRemote : Bool) : State :=
  let f : TxEntry :=
    { content := .update 0 0 [0] false false false, seq := 0, sent := false, resend := false, owner := none }
  { headOf (at3 (linked .up) { entryOf .acked .here with stagingCount := 1 })
      { slotOf (writeCmd waitRemote) with phase := .executingWait } with
    stream.list := List.replicate 95 f, stream.waitWrite := true }

/-- A loss meets the conditions on a waiting WRITE. -/
theorem test_witness_loss_waiting_write :
    let s := waitingWrite true
    s.stream.waitWrite = true ∧ s.dev.state = .running ∧ s.cmd.queue = [0] ∧
      s.cmd.oct[(0 : Fin 32)] = some { slotOf (writeCmd true) with phase := .executingWait } ∧
      (s.region 3).state = .here ∧ (∀ f ∈ s.stream.list, f.owner ≠ some 0) ∧
      (∀ q : Fin 64, (s.region q).claimEntry ≠ some 0 ∧ (s.region q).releaseEntry ≠ some 0) := by decide +kernel

/-- R63, R126: whichever part of the loss is first, the waiting WRITE commits and completes OK_LOCAL. -/
theorem test_loss_with_waiting_write :
    (((waitingWrite true).linkLoss .silence).rings.posting.map fun c => c.status) = [.okLocal] ∧
    (((waitingWrite true).linkLoss .silence).mirror.read 255).value = 6 := by
  have h (c : Nat) : freeOrder c [State.settleOwnership, State.presentHeadWrite] =
      [State.settleOwnership, State.presentHeadWrite] ∨ freeOrder c [State.settleOwnership, State.presentHeadWrite] =
      [State.presentHeadWrite, State.settleOwnership] := List.perm_pair.1 (freeOrder_perm _ _)
  have hl : ((((waitingWrite true).dropSession .silence).emptyStream.stopSweep.dropRequests)).lossParts =
    [State.settleOwnership, State.presentHeadWrite] := rfl
  simp only [State.linkLoss, hl]
  rcases h ((((waitingWrite true).dropSession .silence).emptyStream.stopSweep.dropRequests)).choices with h | h <;>
    rw [h] <;> decide +kernel

/-- R137: a FENCE that a link loss completes keeps no mark. -/
theorem test_loss_clears_marks :
    let fence : OctEntry := { slotOf .fence with phase := .awaitingEvent, mark := some 5 }
    ((({ linked .up with cmd.oct := run.cmd.oct.set 4 (some fence) } : State).linkLoss .silence).entry 4).map
      (fun e => (e.phase, e.mark)) = some (.completed, none) := by
  decide +kernel

/-- R49: nothing is offered without a session, with every frame sent, or with the window full. -/
theorem test_offers_nothing :
    (linked .joining).offeredIndex = none ∧ ({ linked .up with stream.list := sentList } : State).offeredIndex = none ∧
    (let f : TxEntry := { content := .syncDone, seq := 8, sent := false, resend := false, owner := none }
      let g : TxEntry := { f with sent := true }
      ({ linked .up with stream.list := List.replicate 8 g ++ [f] } : State).offeredIndex = none ∧
      ({ linked .up with stream.list := List.replicate 7 g ++ [f] } : State).offeredIndex = some 7 ∧
      ({ linked .up with stream.list := List.replicate 7 g ++ [{ g with resend := true }, f] } : State).offeredIndex =
        some 7) := by decide +kernel

/-- R69, R71: the last snapshot of a sweep with a pending sweep begins the next; R7: a capture with bad parity faults. -/
theorem test_sweep_goes_on :
    look (fun t => (t.sweep.number, t.sweep.offered, t.sweep.pending))
      (exec .frameTake { sendingState 4 (entryOf .cyclic .here) with sweep.pending := true }) =
        some (1, some 3, false) ∧
    look (fun t => (t.dev.faultCode, t.framer.transmitting.isSome))
      (exec .frameTake { sendingState 4 (entryOf .cyclic .here) with mirror := badMirror }) =
        some (.mirrorParity, false) := by decide +kernel

/-! ## Further clauses (O36, O46, O52) -/

/-- R87 in JOINING: a new peer with this part's node id is refused. -/
theorem test_new_peer_refused :
    look (fun t => (t.link.state, t.link.peer, t.notif.queue)) (exec .helloReceived
      (holding .joining { epoch := 8, body := .hello { hello12 none false with nodeId := 7 } })) =
        some (.rejected, none, [.event (.linkRejected .sameNode)]) := by decide +kernel

/-- R7: a refresh part with bad parity faults the join in SYNCING, the session's BYE handed. -/
theorem test_join_faults :
    ({ holdsP with mirror := badMirror } : State).Holds
      { epoch := 9, body := .hello (helloOf partQ (some 5) false) } [] ∧
    look (fun t => (t.dev.faultCode, t.link.state, t.framer.bye, t.stream.list.length))
      (exec .helloReceived { holdsP with mirror := badMirror }) = some (.mirrorParity, .syncing, some 5, 0) :=
  ⟨⟨⟨rfl, by decide⟩, rfl⟩, by decide +kernel⟩

/-- R92: 26 regions have 104 refresh parts, and the cursor waits at the third part of region 23 with the 95 sent. -/
theorem test_refresh_of_26 :
    let parts := refreshParts fun r => decide (r.val < 26)
    parts.length = 104 ∧ parts[95]? = some (23, 3) ∧ (parts.take 95).length = 95 := by decide +kernel

/-- A part in SYNCING with room for `room` UPDATE frames and a cursor that waits at part 2 of region 3. -/
def refreshing (room : Nat) (m : Mirror) : State :=
  let s := fullList (at3 (linked .syncing) (entryOf .acked .here))
  { s with
    mirror := m
    stream.list := s.stream.list.drop room
    link.refresh := some { region := 3, step := 2, waiting := true } }

/-- R46, R92: a waiting cursor sends what there is room for, ends with SYNC_DONE, or faults on a bad word. -/
theorem test_waiting_cursor :
    let sent (s : State) := ((s.presentRequester .refresh).stream.list.length, (s.presentRequester .refresh).link.refresh)
    sent (refreshing 1 []) = (95, some { region := 3, step := 3, waiting := true }) ∧
    sent (refreshing 2 []) = (96, none) ∧ sent (refreshing 0 []) = (95, some { region := 3, step := 2, waiting := true }) ∧
    ((refreshing 1 []).refreshRest { region := 3, step := 2, waiting := true } = [(3, 2), (3, 3)]) ∧
    ((refreshing 1 [(224, { value := 1, parity := true })]).presentRequester .refresh).dev.faultCode = .mirrorParity := by
  decide +kernel

/-- R46, R126: told to present, a waiting WRITE enters when there is room and waits again when there is none. -/
theorem test_waiting_write :
    ((waitingWrite false).presentRequester .write).stream.waitWrite = true ∧
    (let s : State := { waitingWrite false with stream.list := (waitingWrite false).stream.list.drop 1 }
     s.waitingRequesters = [.write] ∧ (s.presentRequester .write).stream.list.length = 95 ∧
      ((s.presentRequester .write).rings.posting.map fun c => c.status) = [.ok] ∧
      ({ s with link.refresh := some { region := 3, step := 0, waiting := true } } : State).waitingRequesters =
        [.write, .refresh]) := by decide +kernel

/-- 11.6: a WATCH record and the events with a parameter, a region byte and a word. -/
theorem test_notify_records :
    let bytes (x : Submission) := ({ number := 0x0102, lost := 3, body := x } : NotifyRecord).bytes true
    bytes (.watch 5 3 62 0x01020304 2 .peer) = [2, 1, 1, 0, 3, 0, 1, 5, 3, 0, 62, 2, 4, 3, 2, 1] ∧
    bytes (.event (.linkLost .stop)) = [2, 1, 3, 0, 3, 0, 2, 6, 0xFF, 0xFF, 0, 0, 0, 0, 0, 0] ∧
    bytes (.event (.protocolError .regionRange (some 200))) = [2, 1, 3, 0, 3, 0, 11, 8, 200, 0, 0, 0, 0, 0, 0, 0] ∧
    bytes (.event (.notifyResumed 258)) = [2, 1, 3, 0, 3, 0, 12, 0, 0xFF, 0xFF, 0, 0, 2, 1, 0, 0] := by decide +kernel

/-! ## Further clauses (O11, O12, O28, O30, O32, O46) -/

/-- R140, R30 and R146 at their bounds: 14 unconsumed or reserved records of 16 leave one slot to reserve and 15 none; a
WRITE yields to a pending request unless its region is held, and a READ never; and each resource as the first lacking. -/
theorem test_presentation_conditions :
    (({ run with rings.post := 3, rings.consumer := 5 } : State).canReserve = true ∧
      ({ run with rings.post := 3, rings.consumer := 5, rings.reserved := 1 } : State).canReserve = false) ∧
    (let asked (held : Bool) : State :=
        at3 run { entryOf .acked .here with pending := some { noWait := false, timer := some 5 }, held := held }
     (asked false).yields (writeCmd false) = true ∧ (asked true).yields (writeCmd false) = false ∧
        (asked false).yields (.read 3 0 1 0) = false) ∧
    (let full : CommandBlock := { run.cmd with
        staging := Vector.replicate 8 (some { entry := 0, words := [], arrived := false, error := false })
        buffers := Vector.replicate 4 (some { entry := 0, capture := none }) }
     let s : State := { run with cmd := full }
     let last : State := { run with cmd := { full with oct := Vector.replicate 32 (some (slotOf .nop)) } }
     s.lacking (.write 3 0 1 (.buffer 0) false) = some .stagingSlot ∧ s.lacking (writeCmd false) = none ∧
        s.lacking (.read 3 0 1 0) = some .readBuffer ∧ s.lacking .nop = none ∧
        last.lacking (.read 3 0 1 0) = some .octEntry) ∧
    (firstFree ((Vector.replicate 32 (some (slotOf .nop))).set 31 none) = some 31 ∧
      firstFree (Vector.replicate 32 (some (slotOf .nop))) = none) := by decide +kernel

/-- R146: nothing is presented without a ready ring or outside RUNNING. -/
theorem test_nothing_presented :
    let s := withCopy (recordOf 4 0 0 0 0) (entryOf .acked .here)
    look (fun t => t.rings.reserved) (exec .recordPresentation s) = some 1 ∧
    look (fun t => t.rings.reserved) (exec .recordPresentation { s with rings.urgent.waiting := some .octEntry }) = some 0 ∧
    look (fun t => t.rings.reserved) (exec .recordPresentation { s with dev.state := .stopping }) = some 0 := by
  decide +kernel

/-- R81, R108: without a session an ack-due flag, an idle-due flag and an offered snapshot send nothing. -/
theorem test_no_session_no_frame :
    let quiet : State := { linked .joining with stream.ackDue := true, framer.idleDue := true, sweep.offered := some 3 }
    (quiet.Works ∧ quiet.framer.transmitting = none ∧ quiet.framer.bye = none ∧ quiet.streaming = false ∧
      quiet.framer.hello = none) ∧ taken quiet = none := by
  simp only [State.Works]
  decide +kernel

/-- Content bytes with their CRC-32. -/
def sealed (content : List Byte) : List Byte := content ++ leBytes 4 (crc32 content).toNat

/-- R105: a frame of 8 bytes passes. -/
theorem test_witness_frame_passes : FramePasses idleBytes := ⟨by decide +kernel, by decide +kernel, rfl⟩

/-- R105: fewer than 8 bytes, a wrong CRC-32, kinds 0 and 11, a length that is not permitted and word counts of 0 and
beside the length are refused, and so is a word count of 17 in 84 bytes; UPDATE frames of 1 word and of 16 pass. -/
theorem test_frames_refused :
    let update (count : Byte) (words : Nat) : List Byte :=
      [2, 0, 0, 0, 0, 0, 0, count, 0, 0, 0, 0] ++ List.replicate (4 * words) 0
    ([[], sealed [9, 0, 0], (sealed [9, 0, 0, 0]).set 7 0xFF, sealed [0, 0, 0, 0], sealed [11, 0, 0, 0],
        sealed [9, 0, 0, 0, 0], sealed (update 0 0), sealed (update 2 1)].all fun b => (checkFrame b).isNone) = true ∧
    (checkFrame (sealed (update 1 1))).isSome = true ∧ lengthHolds (update 16 17) = true ∧
    lengthHolds (update 17 18) = false := by decide +kernel

/-- R53, R26: the acknowledgement of three frames completes the WRITE, the RELEASE and the FENCE, and nothing else. -/
theorem test_ack_completes_only_named :
    let t := acking.processAck 2
    t.rings.posting.map (fun c => (c.entry, c.status)) = [(some 3, .ok), (some 2, .ok), (some 4, .ok)] ∧
    t.entry 1 = acking.entry 1 ∧ t.region 1 = acking.region 1 ∧
    t.notif.queue = acking.notif.queue ++ [.event .linkUp] ∧
    ((acking.processAck 0).link = acking.link ∧ (acking.processAck 0).notif = acking.notif ∧
      (acking.processAck 0).rings.posting.map (fun c => c.entry) = [some 3, some 4] ∧
      (acking.processAck 0).region 2 = acking.region 2) := by decide +kernel

/-- R42, R63: a loss completes the WRITE, the FENCE, the CLAIM and the RELEASE, and nothing else. -/
theorem test_loss_completes_only_named :
    ((waitingAll.linkLoss .silence).rings.posting.map fun c => (c.entry, c.status)).Perm
      [(some 3, .unconfirmed), (some 4, .linkLost), (some 1, .linkLost), (some 2, .unconfirmed)] ∧
    (waitingAll.linkLoss .silence).entry 0 = none := by
  have h (c : Nat) : freeOrder c [((1 : Fin 64), (1 : Fin 32), Status.linkLost), (2, 2, .unconfirmed)] =
      [(1, 1, .linkLost), (2, 2, .unconfirmed)] ∨ freeOrder c [((1 : Fin 64), (1 : Fin 32), Status.linkLost),
        (2, 2, .unconfirmed)] = [(2, 2, .unconfirmed), (1, 1, .linkLost)] := List.perm_pair.1 (freeOrder_perm _ _)
  have hl : (((waitingAll.dropSession .silence).emptyStream.stopSweep.dropRequests)).lossParts =
    [State.settleOwnership] := rfl
  have hc : (((waitingAll.dropSession .silence).emptyStream.stopSweep.dropRequests)).handOverCommands =
    [(1, 1, .linkLost), (2, 2, .unconfirmed)] := by decide +kernel
  simp only [State.linkLoss, hl, show ∀ c, freeOrder c [State.settleOwnership] = [State.settleOwnership] from fun _ => rfl,
    show ∀ s : State, s.chosen [State.settleOwnership].length = s from fun _ => rfl, List.foldl_cons, List.foldl_nil,
    State.taking, State.settleOwnership, hc]
  rcases h (((waitingAll.dropSession .silence).emptyStream.stopSweep.dropRequests)).choices with h | h <;>
    rw [h] <;> decide +kernel

end Sys2Proof.Tests
end

section
/-! Ownership commands at the head of the Execution Queue, the deferral timer, and received hand-over frames (02). -/

namespace Sys2Proof.Machine

/-! ## The head of the queue -/

/-- What the head command finds in the state it takes its effect on, whatever has changed but the queue and the table. -/
theorem State.HeadReady.finish {s t : State} {i : Fin 32} {rest : List (Fin 32)} {e : OctEntry}
    (h : s.HeadReady i rest e) (ht : t.cmd = s.cmd) (st : Status) (info : Info) :
    t.finishHead i st info = t.headDone i rest e st info := by
  obtain ⟨_, hq, he, _⟩ := h
  exact State.finishHead_eq (by rw [ht]; exact he) (by rw [ht]; exact hq) st info

theorem State.HeadReady.await {s t : State} {i : Fin 32} {rest : List (Fin 32)} {e : OctEntry}
    (h : s.HeadReady i rest e) (ht : t.cmd = s.cmd) : t.awaitEvent i e = t.headWaits i rest e := by
  obtain ⟨_, hq, _, _⟩ := h
  exact State.awaitEvent_eq (by rw [ht]; exact hq) e

/-- A command of the block that acts at the head runs its effect on the head entry. -/
theorem State.HeadReady.live_atHead {s : State} {i : Fin 32} {rest : List (Fin 32)} {e : OctEntry}
    (h : s.HeadReady i rest e) (f : State → Fin 32 → OctEntry → State) :
    live (fun t => t.atHead (f t)) s = .next (f s i e) := by
  rw [live_runs h.1.1, State.atHead_ready h]

theorem State.andThen_working {s : State} (h : s.working = true) (f : State → State) : s.andThen f = f s := by
  unfold State.andThen
  rw [if_neg]
  intro hf
  simp [State.working, hf] at h

theorem State.andThen_faulted {s : State} (h : s.dev.state = .faulted) (f : State → State) : s.andThen f = s := by
  simp [State.andThen, h]

theorem State.setRegion_eq (s : State) (r : Fin 64) (e : RegionEntry) : s.setRegion r e = s.withRegion r e := rfl

theorem State.setHeld_eq (s : State) (r : Fin 64) (held : Bool) :
    s.setHeld r held = s.withRegion r { s.region r with held := held } := rfl

@[simp] theorem State.region_withRegion_self (s : State) (r : Fin 64) (e : RegionEntry) :
    (s.withRegion r e).region r = e := State.region_setRegion_self s r e

@[simp] theorem State.withRegion_frame (s : State) (r : Fin 64) (e : RegionEntry) :
    (s.withRegion r e).dev = s.dev ∧ (s.withRegion r e).cmd = s.cmd ∧ (s.withRegion r e).mirror = s.mirror ∧
    (s.withRegion r e).working = s.working := ⟨rfl, rfl, rfl, rfl⟩

theorem State.withRegion_withRegion (s : State) (r : Fin 64) (e f : RegionEntry) :
    (s.withRegion r e).withRegion r f = s.withRegion r f := by
  simp [State.withRegion]

@[simp] theorem State.granted_frame (s : State) (r : Fin 64) (content : Option (List Word)) :
    (s.granted r content).dev = s.dev ∧ (s.granted r content).cmd = s.cmd := ⟨rfl, rfl⟩

theorem State.region_granted (s : State) (r : Fin 64) (content : Option (List Word)) :
    (s.granted r content).region r = { s.region r with state := .granting, held := false, pending := none } := by
  simp [State.granted]

/-! ## CLAIM (R23) -/

theorem State.claimEffect_eq {s : State} {i : Fin 32} {rest : List (Fin 32)} {e : OctEntry} (h : s.HeadReady i rest e)
    (r : Fin 64) (noWait : Bool) :
    s.claimEffect i e r noWait =
      (if (s.region r).cls = .off then s.headDone i rest e .regionOff (s.summary r)
      else if (s.region r).state = .here then s.headDone i rest e .ok (s.summary r 256)
      else if (s.region r).state = .claiming ∨ (s.region r).state = .granting then
        s.headDone i rest e .inProgress (s.summary r)
      else if s.link.state ≠ .up then s.headDone i rest e .linkNotUp (s.summary r)
      else if (s.region r).generation = 4294967295#32 then s.headDone i rest e .genLimit (s.summary r)
      else if ∃ t ∈ s.stream.list, t.content.handsOver r = true then s.headDone i rest e .inProgress (s.summary r)
      else ((s.withControl (.ownReq (BitVec.ofNat 8 r.val) (s.region r).generation noWait)).withRegion r
        { s.region r with state := .claiming, claimEntry := some i }).headWaits i rest e) := by
  have already : alreadyFlag = 256 := rfl
  unfold State.claimEffect State.claimStarts
  simp only [h.finish rfl, ← State.outstanding_iff, Config.genLimit, already]
  cases (s.region r).state <;> simp only [reduceCtorEq, if_true, if_false, or_true, true_or, or_self]
  case there => rw [h.await (by simp), State.enqueue_control]; rfl

/-- Settles O21: the head rule, and the checks of `claimEffect` by the state of the region. -/
theorem claimChecksInOrder : Obligations.ClaimChecksInOrder := by
  unfold Obligations.ClaimChecksInOrder
  intro s i rest e r noWait h hc
  have hx : exec .claim s = _ := h.live_atHead fun t i e => match e.command with
    | .claim r noWait => t.claimEffect i e r noWait
    | _ => t
  rw [hx]
  simp only [hc, State.claimEffect_eq h]

/-! ## The capture of a grant (R7, R32) -/

theorem State.capture_whole {s : State} {r : Fin 64} (h : s.mirror.rangeGood (64 * r.val) 64 = true) :
    s.capture r 0 64 = some (s.mirror.values (64 * r.val) 64) := by
  simp [State.capture, wordAddress, Nat.mul_comm r.val 64, h]

theorem State.capture_bad {s : State} {r : Fin 64} (h : s.mirror.rangeGood (64 * r.val) 64 = false) :
    s.capture r 0 64 = none := by
  simp [State.capture, wordAddress, Nat.mul_comm r.val 64, h]

theorem State.grantStep_bad {s : State} {r : Fin 64} (hc : (s.region r).cls = .cyclic)
    (h : s.mirror.rangeGood (64 * r.val) 64 = false) : s.grantStep r = s.enterFaulted .mirrorParity := by
  simp [State.grantStep, hc, State.capture_bad h]

/-! ## RELEASE (R25) -/

/-- A RELEASE that the checks let through runs the grant step with the content `w`. -/
theorem State.releaseStarts_eq {s : State} {i : Fin 32} {rest : List (Fin 32)} {e : OctEntry}
    (h : s.HeadReady i rest e) {r : Fin 64} {content : Option (List Word)}
    (hg : s.grantStep r = s.granted r content) :
    s.releaseStarts i e r =
      ((s.withControl (.ownGrant (BitVec.ofNat 8 r.val) ((s.region r).generation + 1) content)).withRegion r
        { s.region r with state := .granting, held := false, pending := none, releaseEntry := some i }).headWaits
          i rest e := by
  have hw : (s.granted r content).working = true := h.1.working
  unfold State.releaseStarts
  rw [hg, State.andThen_working hw, h.await (by simp), State.setRegion_eq, State.region_granted]
  simp only [State.granted, State.withRegion_withRegion]
  rfl

/-- The checks of R25 in their order; the last line is the start. -/
theorem State.releaseEffect_eq {s : State} {i : Fin 32} {rest : List (Fin 32)} {e : OctEntry}
    (h : s.HeadReady i rest e) (r : Fin 64) :
    s.releaseEffect i e r =
      (if (s.region r).cls = .off then s.headDone i rest e .regionOff (s.summary r)
      else if (s.region r).state = .claiming ∨ (s.region r).state = .granting then
        s.headDone i rest e .inProgress (s.summary r)
      else if (s.region r).state = .there then s.headDone i rest e .notOwner (s.summary r)
      else if s.link.state ≠ .up then s.headDone i rest e .linkNotUp (s.summary r)
      else if (s.region r).generation = 4294967295#32 then s.headDone i rest e .genLimit (s.summary r)
      else if ∃ t ∈ s.stream.list, t.content.handsOver r = true then s.headDone i rest e .inProgress (s.summary r)
      else s.releaseStarts i e r) := by
  unfold State.releaseEffect
  simp only [h.finish rfl, ← State.outstanding_iff, Config.genLimit]
  cases (s.region r).state <;> simp only [reduceCtorEq, if_true, if_false, or_true, true_or, or_self]

/-- Settles O22: the checks of `releaseEffect` in order, and its start by the class of the region. -/
theorem releaseChecksInOrder : Obligations.ReleaseChecksInOrder := by
  unfold Obligations.ReleaseChecksInOrder
  intro s i rest e r h hc started refused
  have hx : exec .release s = .next (s.releaseEffect i e r) := by
    have hx : exec .release s = _ := h.live_atHead fun t i e => match e.command with
      | .release r => t.releaseEffect i e r
      | _ => t
    rw [hx]
    simp only [hc]
  have starts (hr : ¬ refused) : (s.region r).generation ≠ Config.genLimit ∧
      s.releaseEffect i e r = s.releaseStarts i e r := by
    obtain ⟨hcls, hstate, hlink, hgen, hlist⟩ : (s.region r).cls ≠ .off ∧ (s.region r).state = .here ∧
        s.link.state = .up ∧ (s.region r).generation ≠ 4294967295#32 ∧
        ¬ ∃ t ∈ s.stream.list, t.content.handsOver r = true := by
      simpa only [refused, not_or, not_not, ne_eq] using hr
    refine ⟨hgen, ?_⟩
    rw [State.releaseEffect_eq h]
    simp only [hcls, hstate, hlink, hgen, hlist, ne_eq, not_true_eq_false, reduceCtorEq, or_self, if_false]
  rw [hx]
  refine ⟨fun hr => ?_, fun hr hcls => ?_, fun hr hcls hgood => ?_, fun hr hcls hbad => ?_⟩
  · rw [State.releaseEffect_eq h]
    rcases hr with hcls | hstate | hlink | hgen | hlist
    · simp only [hcls, if_true]
    · cases hs : (s.region r).state <;> simp_all
    · simp only [ne_eq, hlink, not_false_eq_true, if_true]
    · simp only [hgen, if_true]
    · simp only [hlist, if_true]
  · obtain ⟨hgen, hstart⟩ := starts hr
    rw [hstart, State.releaseStarts_eq h (State.grantStep_plain (by simp [hcls]) hgen)]
  · obtain ⟨hgen, hstart⟩ := starts hr
    rw [hstart, State.releaseStarts_eq h (State.grantStep_cyclic hcls hgen (State.capture_whole hgood))]
  · obtain ⟨_, hstart⟩ := starts hr
    have hf := State.enterFaulted_spec h.1.working .mirrorParity
    refine ⟨_, rfl, ?_⟩
    rw [hstart, State.releaseStarts, State.grantStep_bad hcls hbad, State.andThen_faulted hf.1]
    exact hf

/-! ## HOLD and UNHOLD (R27, R28) -/

/-- UNHOLD in HERE clears the mark, or finds it clear, and then completes, unless it grants (R28). -/
theorem State.unholdEffect_plain {s : State} {r : Fin 64}
    (h : ¬ ((s.region r).held = true ∧ (s.region r).pending.isSome = true ∧ (s.region r).stagingCount = 0)) :
    s.unholdEffect r = s.withRegion r { s.region r with held := false } := by
  unfold State.unholdEffect
  split
  next hh => rw [if_neg fun hp => h ⟨hh, hp⟩]; rfl
  next hh =>
    have hsame : ({ s.region r with held := false } : RegionEntry) = s.region r := by
      cases hr : s.region r
      simpa [hr] using hh
    rw [hsame]
    simp [State.withRegion, State.region]

theorem State.unholdEffect_grants {s : State} {r : Fin 64}
    (h : (s.region r).held = true ∧ (s.region r).pending.isSome = true ∧ (s.region r).stagingCount = 0) :
    s.unholdEffect r = (s.withRegion r { s.region r with held := false }).grantStep r := by
  obtain ⟨hheld, hp⟩ := h
  unfold State.unholdEffect
  rw [if_pos hheld, if_pos hp]; rfl

/-- What a fault leaves behind does not depend on a region's held mark. -/
theorem State.HasFaulted.of_withRegion {s t : State} {r : Fin 64} {e : RegionEntry} {code : FaultCode}
    (h : (s.withRegion r e).HasFaulted t code) (hs : e.state = (s.region r).state)
    (hg : e.generation = (s.region r).generation) : s.HasFaulted t code := by
  have hr (q : Fin 64) : ((s.withRegion r e).region q).state = (s.region q).state ∧
      ((s.withRegion r e).region q).generation = (s.region q).generation := by
    rw [← State.setRegion_eq, State.region_setRegion]
    split
    next hq => exact hq ▸ ⟨hs, hg⟩
    next => exact ⟨rfl, rfl⟩
  simp only [State.HasFaulted, hr] at h
  exact h

/-- An UNHOLD that did not lead into FAULTED completes OK with the summary of its region. -/
theorem State.HeadReady.unhold_completes {s u : State} {i : Fin 32} {rest : List (Fin 32)} {e : OctEntry} {r : Fin 64}
    (h : s.HeadReady i rest e) (hu : s.unholdEffect r = u) (hdev : u.dev = s.dev) (hcmd : u.cmd = s.cmd) :
    (s.unholdEffect r).andThen (fun t => t.finishHead i .ok (t.summary r)) = u.headDone i rest e .ok (u.summary r) := by
  have hw : u.working = true := by simpa [State.working, hdev] using h.1.working
  rw [hu, State.andThen_working hw, h.finish hcmd]

/-- A parity error in the capture of an UNHOLD's grant is the fault, and the command does not complete (R7, R32). -/
theorem State.unhold_faults {s : State} {r : Fin 64} {f : State → State} (hw : s.working = true)
    (hg : (s.region r).held = true ∧ (s.region r).pending.isSome = true ∧ (s.region r).stagingCount = 0)
    (hc : (s.region r).cls = .cyclic) (hbad : s.mirror.rangeGood (64 * r.val) 64 = false) :
    s.HasFaulted ((s.unholdEffect r).andThen f) .mirrorParity := by
  have hf := State.enterFaulted_spec (s := s.withRegion r { s.region r with held := false }) (by simpa using hw)
    .mirrorParity
  rw [State.unholdEffect_grants hg, State.grantStep_bad (by simpa using hc) (by simpa using hbad),
    State.andThen_faulted hf.1]
  exact hf.of_withRegion rfl rfl

/-- Settles O23: HOLD and the refusals by the head rule; UNHOLD in HERE by whether it grants, and a grant by the class of
the region. -/
theorem holdAndUnholdRegions : Obligations.HoldAndUnholdRegions := by
  unfold Obligations.HoldAndUnholdRegions
  constructor
  · intro s i rest e r h hc
    have hx : exec .hold s = _ := h.live_atHead fun t i e => match e.command with
      | .hold r =>
        if (t.region r).cls = .off then t.finishHead i .regionOff (t.summary r)
        else if (t.region r).state ≠ .here then t.finishHead i .notOwner (t.summary r)
        else (t.setHeld r true).finishHead i .ok ((t.setHeld r true).summary r)
      | _ => t
    rw [hx]
    simp only [hc, State.setHeld_eq, h.finish rfl, h.finish (State.withRegion_frame ..).2.1]
  · intro s i rest e r h hc freed grants
    have hx : exec .unhold s = _ := h.live_atHead fun t i e => match e.command with
      | .unhold r =>
        if (t.region r).cls = .off then t.finishHead i .regionOff (t.summary r)
        else if (t.region r).state ≠ .here then t.finishHead i .notOwner (t.summary r)
        else (t.unholdEffect r).andThen fun t => t.finishHead i .ok (t.summary r)
      | _ => t
    rw [hx]
    simp only [hc, h.finish rfl]
    refine ⟨fun hr => ?_, fun hcls hstate => ?_⟩
    · split
      · rfl
      · rw [if_pos (hr.resolve_left ‹_›)]
    simp only [hcls, hstate, ne_eq, not_true_eq_false, if_false]
    have limit (hgen : (s.region r).generation ≠ 4294967295#32) :
        ((s.withRegion r { s.region r with held := false }).region r).generation ≠ Config.genLimit := by
      rw [State.region_withRegion_self]; exact hgen
    refine ⟨fun hg => ?_, fun hg hgen hcls => ?_, fun hg hgen hcls hgood => ?_, fun hg hcls hbad => ?_⟩
    · rw [h.unhold_completes (State.unholdEffect_plain hg) rfl rfl]
    · have hstep := State.grantStep_plain (by simp [hcls]) (limit hgen)
      rw [h.unhold_completes ((State.unholdEffect_grants hg).trans hstep) rfl rfl]
    · have hstep := State.grantStep_cyclic (by simpa using hcls) (limit hgen) (State.capture_whole hgood)
      rw [h.unhold_completes ((State.unholdEffect_grants hg).trans hstep) rfl rfl]
      rfl
    · exact ⟨_, rfl, State.unhold_faults h.1.working hg hcls hbad⟩

end Sys2Proof.Machine
end

section
/-! Received OWN_GRANT and OWN_DENY frames, and the expiry of the deferral timer (02). -/

namespace Sys2Proof.Machine

/-! ## The deferral timer (R35) -/

theorem busyReason_code (e : RegionEntry) :
    (BitVec.ofNat 8 e.busyReason.code : Byte) = if e.held then 2 else 3 := by
  cases h : e.held <;> simp [RegionEntry.busyReason, h, DenyReason.code]

/-- Settles O49, by the two cases of `deferralExpires`. -/
theorem deferralExpiryDenies : Obligations.DeferralExpiryDenies := by
  unfold Obligations.DeferralExpiryDenies
  constructor
  · intro s r noWait ms hp hq
    have hx : exec (.deferralTimerExpiry r) s = .next (s.deferralExpires r) :=
      live_runs (f := fun t => t.deferralExpires r) hp
    rw [hx, ← busyReason_code]
    simp only [State.deferralExpires, hq]
    rfl
  · intro s r hq
    have hx : exec (.deferralTimerExpiry r) s = live (fun t => t.deferralExpires r) s := rfl
    have hstays : s.deferralExpires r = s := by simp only [State.deferralExpires, hq]
    rw [hx, live, hstays, ite_self]

/-! ## Frames for a region (R59) -/

@[simp] theorem State.inOrder_region (u : State) (r : Fin 64) : u.inOrder.region r = u.region r := rfl

@[simp] theorem State.inOrder_cmd (u : State) : u.inOrder.cmd = u.cmd := rfl

/-- A frame for a region of class OFF is discarded with its protocol error (R59). -/
theorem State.onRegion_off {s : State} {r : Fin 64} (h : (s.region r).cls = .off) (f : Fin 64 → State) :
    s.onRegion (BitVec.ofNat 8 r.val) f = s.withProtocolError .regionOff (some (BitVec.ofNat 8 r.val)) := by
  simp [State.onRegion, State.protocolError_eq, h]

/-- A frame for a region that is mirrored is handed on (R59). -/
theorem State.onRegion_mirrored {s : State} {r : Fin 64} (h : (s.region r).cls ≠ .off) (f : Fin 64 → State) :
    s.onRegion (BitVec.ofNat 8 r.val) f = f r := by
  simp [State.onRegion, h]

/-! ## OWN_DENY (R40) -/

/-- Settles O44: the dispatch of a frame in order, and `takeDeny` by the state of the region. -/
theorem denyReceivedEndsClaim : Obligations.DenyReceivedEndsClaim := by
  unfold Obligations.DenyReceivedEndsClaim
  intro s u seq acked r reason h hseq there
  have hx : exec .ownDenyReceived s = .next (u.inOrder.onRegion (BitVec.ofNat 8 r.val) fun q =>
      u.inOrder.takeDeny q reason) :=
    h.dispatch (kind := SeqContent.asDenial) (a := (BitVec.ofNat 8 r.val, reason)) rfl
      (fun v x => v.onRegion x.1 fun q => v.takeDeny q x.2) hseq
  rw [hx]
  refine ⟨fun hcls => ?_, fun i c hcls hstate hclaim hc => ?_, fun hcls hstate => ?_⟩
  · rw [State.onRegion_off (s := u.inOrder) hcls]
  · rw [State.onRegion_mirrored (s := u.inOrder) hcls]
    simp only [State.takeDeny, State.inOrder_region, hstate, hclaim, if_true]
    rw [State.requestCompletion_eq (e := c) (by simpa using hc), BitVec.ofNat_toNat]
    rfl
  · rw [State.onRegion_mirrored (s := u.inOrder) hcls]
    simp only [State.takeDeny, State.inOrder_region, hstate, if_false]

/-! ## OWN_GRANT (R37 to R39) -/

theorem grantContentWrong_iff (cls : RegionClass) (content : Option (List Word)) :
    grantContentWrong cls content = true ↔ cls = .cyclic ∧ content = none ∨ cls = .acked ∧ content ≠ none := by
  cases cls <;> simp [grantContentWrong, Option.isSome_iff_ne_none]

/-- Below GEN_LIMIT a generation is followed by the next number, and its region's sweep record begins anew (R77). -/
theorem RegionEntry.withGeneration_next (e : RegionEntry) (h : e.generation ≠ Config.genLimit) :
    e.withGeneration (nextGeneration e.generation) =
      { e with generation := e.generation + 1, lastSweep := none, age := 0 } := by
  simp [nextGeneration, h, RegionEntry.withGeneration]

/-- An accepted grant makes the region HERE at the next generation, the words of a CYCLIC one applied first (R38, R39). -/
theorem State.grantArrives_eq (s : State) (r : Fin 64) (content : Option (List Word)) {generation : BitVec 32}
    (h : ¬ (generation ≠ (s.region r).generation + 1 ∨ (s.region r).generation = 4294967295#32)) :
    s.grantArrives r content =
      (match content with
        | some words => s.apply r 0 words .peer
        | none => s).withRegion r { s.region r with
          state := .here, generation := generation, stale := false, claimEntry := none, lastSweep := none, age := 0 } := by
  obtain ⟨hgen, hlimit⟩ : generation = (s.region r).generation + 1 ∧ (s.region r).generation ≠ Config.genLimit := by
    simpa only [not_or, ne_eq, not_not, Config.genLimit] using h
  unfold State.grantArrives
  rw [RegionEntry.withGeneration_next _ hlimit, hgen]
  cases content <;> rfl

/-- Settles O43: the dispatch of a frame in order, and the lines of `takeGrant` in order. -/
theorem grantReceivedMakesOwner : Obligations.GrantReceivedMakesOwner := by
  unfold Obligations.GrantReceivedMakesOwner
  intro s u seq acked r generation content h hseq v e byte wrong unsuited applied new
  have hx : exec .ownGrantReceived s = .next (v.onRegion byte fun q => v.takeGrant q generation content) :=
    h.dispatch (kind := SeqContent.asGrant) (a := (byte, generation, content)) rfl
      (fun v x => v.onRegion x.1 fun q => v.takeGrant q x.2.1 x.2.2) hseq
  have take : v.takeGrant r generation content =
      if e.state = .here ∨ e.state = .granting then v.withProtocolError .grantUnexpected (some byte)
      else if wrong then v.withProtocolError .grantGeneration (some byte)
      else if unsuited then v.withProtocolError .grantContent (some byte)
      else if e.state = .claiming then v.grantAnswersClaim r content
      else (v.grantArrives r content).event (.ownershipArrived r true) := by
    simp only [State.takeGrant, State.protocolError_eq, grantContentWrong_iff]
    rfl
  have arrives (hw : ¬ wrong) : v.grantArrives r content = new := by
    rw [State.grantArrives_eq v r content hw]
    cases content <;> rfl
  have waits (hs : e.state = .there ∨ e.state = .claiming) : ¬ (e.state = .here ∨ e.state = .granting) := by
    rcases hs with hs | hs <;> simp [hs]
  have hnew : new.cmd = u.cmd := by cases content <;> rfl
  rw [hx]
  refine ⟨fun hcls => by rw [State.onRegion_off (s := v) hcls], fun hcls => ?_⟩
  rw [State.onRegion_mirrored (s := v) hcls, take]
  refine ⟨fun hs => by rw [if_pos hs], fun hs hw => ?_, fun hs hw hc => ?_, fun hs hw hc => ?_,
    fun i c hs hw hc hclaim he => ?_⟩
  · rw [if_neg (waits hs), if_pos hw]
  · rw [if_neg (waits hs), if_neg hw, if_pos hc]
  · rw [if_neg (waits (.inl hs)), if_neg hw, if_neg hc, if_neg (by simp [hs]), arrives hw, State.event_eq]
  · have hclaim' : (v.region r).claimEntry = some i := hclaim
    rw [if_neg (waits (.inr hs)), if_neg hw, if_neg hc, if_pos hs, State.grantAnswersClaim, arrives hw]
    simp only [hclaim']
    rw [State.requestCompletion_eq (e := c) (by rw [hnew]; exact he)]

end Sys2Proof.Machine
end

section
/-! What a command does to a part that is not held in cold reset, what a step can be, and what a part that is FAULTED or
held in cold reset takes no notice of (R175, R180). -/

namespace Sys2Proof.Machine

/-! ## Effects and steps -/

/-- The state that a command leaves in a part that is not held in cold reset; `exec_eq_effect` ties it to `exec`. -/
def State.effect (s : State) : Instr → State
  | .coldReset => s.heldInReset
  | .perstNRelease => s.released
  | .initDone => s.initEnds
  | .start => s.startWritten
  | .stop => s.stopWritten
  | .reset => s.resetWritten
  | .clearFault => s.clearFaultWritten
  | .controlInvalidCode value => s.controlWrite (value.toNat % 256)
  | .registerWrite offset data => s.writeWindow offset.toNat data
  | .producerIndexPost ring index => s.postWrite (ringSelector ring) index.toNat
  | .completionConsumerPost index => s.postWrite 2 index.toNat
  | .notificationConsumerPost index => s.postWrite 3 index.toNat
  | .badPostSelector selector index => s.postWrite selector.toNat index.toNat
  | .setupReadDone result => s.setupEnds result
  | .recordFetchDone ring result => s.fetchEnds ring result
  | .recordPresentation => s.presentRecord
  | .nop => s.nopAtHead
  | .write => s.writeAtHead
  | .read => s.readAtHead
  | .fence => s.fenceAtHead
  | .stats => s.statsAtHead
  | .queryRegion => s.queryRegionAtHead
  | .claim => s.claimAtHead
  | .release => s.releaseAtHead
  | .hold => s.holdAtHead
  | .unhold => s.unholdAtHead
  | .setClass => s.setClassAtHead
  | .watchSet => s.watchSetAtHead
  | .watchClear => s.watchClearAtHead
  | .linkUp => s.linkUpAtHead
  | .linkDown => s.linkDownAtHead
  | .stagingTransferDone slot result => s.stagingEnds slot result
  | .readOutputDone buffer ok => s.readOutputEnds buffer ok
  | .statsOutputDone ok => s.statsOutputEnds ok
  | .completionWriteDone ok => s.completionWriteEnds ok
  | .frameTake => s.takeFrame
  | .transmitEnd => s.transmitEnds
  | .receiveFrameEnd cut => s.frameEnds cut
  | .helloReceived => s.takeHeld Frame.asHello fun u x => u.takeHelloFrame x.1 x.2
  | .updateReceived => s.receiveSequenced SeqContent.asUpdate State.takeUpdate
  | .ownReqReceived =>
    s.receiveSequenced SeqContent.asRequest fun u x => u.onRegion x.1 fun r => u.takeRequest r x.2.1 x.2.2
  | .ownGrantReceived =>
    s.receiveSequenced SeqContent.asGrant fun u x => u.onRegion x.1 fun r => u.takeGrant r x.2.1 x.2.2
  | .ownDenyReceived => s.receiveSequenced SeqContent.asDenial fun u x => u.onRegion x.1 fun r => u.takeDeny r x.2
  | .syncDoneReceived => s.receiveSequenced SeqContent.asSync fun u _ => u.takeSync
  | .ackReceived => s.takeHeld Frame.asAck fun u x => u.toStream x.1 fun v => v.processAck x.2
  | .snapshotReceived =>
    s.takeHeld Frame.asSnapshot fun u x => u.toStream x.1 fun v => v.takeSnapshot x.2.1 x.2.2.1 x.2.2.2.1 x.2.2.2.2
  | .idleReceived => s.takeHeld Frame.asIdle fun u epoch => u.filtered epoch id
  | .byeReceived => s.takeHeld Frame.asBye fun u epoch => u.filtered epoch fun v => v.linkLoss .peerLeft
  | .retransmissionTimerExpiry => s.retransmissionExpires
  | .deferralTimerExpiry region => s.deferralExpires region
  | .sweepTimerExpiry => s.sweepExpires
  | .helloTimerExpiry => s.helloExpires
  | .silenceTimerExpiry => s.silenceExpires
  | .quietTimerExpiry => s.quietExpires
  | .linkActTimeout => s.linkActFalls
  | .watchEvaluation => s.evaluateReport
  | .notificationTake => s.takeSubmission
  | .notificationWriteDone ok => s.notifyWriteEnds ok
  | .ringManagerStopReport => s.ringsReport
  | .notificationStopReport => s.notifyReport
  | .startDelimiter => s.frameBegins
  | .dataByte b => s.collecting fun a => a.push b
  | .codeError => s.collecting fun a => { a with discard := true }

/-- Every command but the assertion and the release of PERST_N passes the guard of a part held in cold reset. -/
theorem exec_eq_live (c : Instr) (h1 : c ≠ .coldReset) (h2 : c ≠ .perstNRelease) (s : State) :
    exec c s = live (fun t => t.effect c) s := by
  cases c
  case coldReset => exact absurd rfl h1
  case perstNRelease => exact absurd rfl h2
  all_goals rfl

theorem exec_eq_effect {s : State} (hp : s.dev.perst = false) (c : Instr) : exec c s = .next (s.effect c) := by
  by_cases h1 : c = .coldReset
  · subst h1; rfl
  by_cases h2 : c = .perstNRelease
  · subst h2; rfl
  rw [exec_eq_live c h1 h2, live_runs hp]

/-- A part held in cold reset takes the assertion and the release of PERST_N and nothing else. -/
theorem exec_held {s : State} (hp : s.dev.perst = true) (c : Instr) :
    exec c s = .next (match c with
      | .coldReset => s.heldInReset
      | .perstNRelease => s.released
      | _ => s) := by
  by_cases h1 : c = .coldReset
  · subst h1; rfl
  by_cases h2 : c = .perstNRelease
  · subst h2; rfl
  rw [exec_eq_live c h1 h2, live_held hp]
  cases c
  case coldReset => exact absurd rfl h1
  case perstNRelease => exact absurd rfl h2
  all_goals rfl

/-! ## Guards of the device state -/

theorem State.not_working_of_faulted {s : State} (h : s.dev.state = .faulted) : s.working = false := by
  simp [State.working, h]

theorem State.atHead_of_not_running {s : State} (h : s.dev.state ≠ .running) (f : Fin 32 → OctEntry → State) :
    s.atHead f = s := if_neg h

theorem State.postWrite_of_not_running {s : State} (h : s.dev.state ≠ .running) (selector index : Nat) :
    s.postWrite selector index = s := if_neg h

theorem State.takeHeld_of_not_working {s : State} (h : s.working = false) {α : Type} (kind : Frame → Option α)
    (f : State → α → State) : s.takeHeld kind f = s := by
  simp [State.takeHeld, h]

/-! ## Ends of transfers in FAULTED (R136, R155, R170) -/

theorem State.fetchEnds_faulted {s : State} (h : s.dev.state = .faulted) (ring : Ring)
    (result : Option (Vector FoundByte 32)) : s.fetchEnds ring result = s := by
  simp [State.fetchEnds, h]

theorem State.stagingEnds_faulted {s : State} (h : s.dev.state = .faulted) (j : Fin 8)
    (result : Option (List FoundByte)) : s.stagingEnds j result = s := by
  unfold State.stagingEnds
  simp only [h]
  repeat' split
  all_goals rfl

theorem State.readOutputEnds_faulted {s : State} (h : s.dev.state = .faulted) (j : Fin 4) (ok : Bool) :
    s.readOutputEnds j ok = s := by
  unfold State.readOutputEnds
  simp only [h]
  repeat' split
  all_goals rfl

theorem State.statsOutputEnds_faulted {s : State} (h : s.dev.state = .faulted) (ok : Bool) :
    s.statsOutputEnds ok = s := by
  unfold State.statsOutputEnds
  simp only [h]
  repeat' split
  all_goals rfl

theorem State.completionWriteEnds_faulted {s : State} (h : s.dev.state = .faulted) (ok : Bool) :
    s.completionWriteEnds ok = s := by
  unfold State.completionWriteEnds
  simp only [State.not_working_of_faulted h, Bool.false_eq_true, if_false]
  split <;> rfl

theorem State.notifyWriteEnds_faulted {s : State} (h : s.dev.state = .faulted) (ok : Bool) :
    s.notifyWriteEnds ok = s := by
  unfold State.notifyWriteEnds
  simp only [State.not_working_of_faulted h, Bool.false_eq_true, if_false]
  split <;> rfl

/-! ## Stopped timers (R31, R43, R64, R79, R100) -/

theorem State.deferralExpires_stopped {s : State} {r : Fin 64}
    (h : ∀ q, (s.region r).pending = some q → q.timer = none) : s.deferralExpires r = s := by
  unfold State.deferralExpires
  split
  next hq => cases h _ hq
  next => rfl

theorem State.helloExpires_stopped {s : State} (h : s.link.helloTimer = none) : s.helloExpires = s := by
  simp [State.helloExpires, h]

/-! ## FAULTED and cold reset -/

/-- The commands that act on a FAULTED part: resets, control and register writes, the sending of frames and the end of a
LINK_ACT pulse. -/
def actsWhenFaulted : Instr → Bool
  | .coldReset | .start | .stop | .reset | .clearFault | .controlInvalidCode _ | .registerWrite _ _
  | .frameTake | .transmitEnd | .linkActTimeout => true
  | _ => false

/-- Every other command leaves a FAULTED part whose timers are stopped as it is. -/
theorem State.effect_faulted {s : State} (c : Instr) (hp : s.dev.perst = false) (hf : s.dev.state = .faulted)
    (hs : s.FaultStopped) (hc : actsWhenFaulted c = false) : s.effect c = s := by
  obtain ⟨hretry, hsweep, hhello, hsilence, hquiet, _, hdefer⟩ := hs hf
  have hnr : s.dev.state ≠ .running := by simp [hf]
  have hnw := State.not_working_of_faulted hf
  cases c
  case coldReset | start | stop | reset | clearFault | controlInvalidCode | registerWrite | frameTake | transmitEnd
    | linkActTimeout => exact Bool.noConfusion hc
  case perstNRelease => simp [State.effect, State.released, hp]
  case initDone => simp [State.effect, State.initEnds, hf]
  case setupReadDone => simp [State.effect, State.setupEnds, hf]
  case producerIndexPost | completionConsumerPost | notificationConsumerPost | badPostSelector =>
    simp only [State.effect, State.postWrite_of_not_running hnr]
  case recordFetchDone => simp only [State.effect, State.fetchEnds_faulted hf]
  case recordPresentation => exact if_neg hnr
  case nop | write | read | fence | stats | queryRegion | claim | release | hold | unhold | setClass | watchSet
    | watchClear | linkUp | linkDown => exact State.atHead_of_not_running hnr _
  case stagingTransferDone => simp only [State.effect, State.stagingEnds_faulted hf]
  case readOutputDone => simp only [State.effect, State.readOutputEnds_faulted hf]
  case statsOutputDone => simp only [State.effect, State.statsOutputEnds_faulted hf]
  case completionWriteDone => simp only [State.effect, State.completionWriteEnds_faulted hf]
  case notificationWriteDone => simp only [State.effect, State.notifyWriteEnds_faulted hf]
  case helloReceived | updateReceived | ownReqReceived | ownGrantReceived | ownDenyReceived | syncDoneReceived
    | ackReceived | snapshotReceived | idleReceived | byeReceived =>
    simp only [State.effect, State.receiveSequenced, State.takeHeld_of_not_working hnw]
  case retransmissionTimerExpiry => simp [State.effect, State.retransmissionExpires, hretry]
  case deferralTimerExpiry r => simp only [State.effect, State.deferralExpires_stopped (hdefer r)]
  case sweepTimerExpiry => simp [State.effect, State.sweepExpires, hsweep]
  case helloTimerExpiry => simp only [State.effect, State.helloExpires_stopped hhello]
  case silenceTimerExpiry => simp [State.effect, State.silenceExpires, hsilence]
  case quietTimerExpiry => simp [State.effect, State.quietExpires, hquiet]
  case watchEvaluation => simp [State.effect, State.evaluateReport, hnw]
  case notificationTake => simp [State.effect, State.takeSubmission, hnw]
  case ringManagerStopReport => simp [State.effect, State.ringsReport, hf]
  case notificationStopReport => simp [State.effect, State.notifyReport, hf]
  case startDelimiter => simp [State.effect, State.frameBegins, hnw]
  case receiveFrameEnd => simp [State.effect, State.frameEnds, State.frameBegins, hnw]
  case dataByte | codeError => simp [State.effect, State.collecting, hnw]

/-- Settles O53: no guard lets a command but the ten named through in FAULTED, and every command but two is held off while
PERST_N is asserted. -/
theorem stoppedPartStandsStill : Obligations.StoppedPartStandsStill := by
  unfold Obligations.StoppedPartStandsStill
  constructor
  · intro s c hp hf hs hc
    have hacts : actsWhenFaulted c = false := by
      cases c
      case coldReset | start | stop | reset | clearFault | controlInvalidCode | registerWrite | frameTake | transmitEnd
        | linkActTimeout => exact hc.elim
      all_goals rfl
    rw [exec_eq_effect hp, State.effect_faulted c hp hf hs hacts]
  · intro c s hp h1 h2
    rw [exec_eq_live c h1 h2, live_held hp]

end Sys2Proof.Machine
end

section
/-! Every step keeps the link OFF outside RUNNING and FAULTED, and the timers stopped in FAULTED (R100, R180). -/

namespace Sys2Proof.Machine

/-! ## How a command may move the device and link states -/

/-- A link that is OFF outside RUNNING is still OFF. -/
def State.LinkStaysOff (s t : State) : Prop :=
  s.dev.state ≠ .running → s.link.state = .off → t.link.state = .off

/-- The device state is as before, or the part has entered FAULTED and its timers are stopped; and no link has left OFF
outside RUNNING. -/
structure State.StaysOrFaults (s t : State) : Prop where
  state : t.dev.state = s.dev.state ∨ t.dev.state = .faulted ∧ t.FaultStopped
  off   : s.LinkStaysOff t

theorem State.LinkStaysOff.of_eq {s t : State} (h : t.link.state = s.link.state) : s.LinkStaysOff t :=
  fun _ hoff => h.trans hoff

/-- Nothing is asked of a link that is not OFF. -/
theorem State.LinkStaysOff.of_ne {s t : State} (h : s.link.state ≠ .off) : s.LinkStaysOff t :=
  fun _ hoff => absurd hoff h

namespace State.StaysOrFaults

theorem of_eq {s t : State} (hd : t.dev.state = s.dev.state) (hl : t.link.state = s.link.state) : s.StaysOrFaults t :=
  ⟨.inl hd, .of_eq hl⟩

theorem refl (s : State) : s.StaysOrFaults s := of_eq rfl rfl

/-- What stays before a command part is no obstacle to it. -/
theorem after {s t u : State} (hd : t.dev.state = s.dev.state) (hl : s.LinkStaysOff t) (h : t.StaysOrFaults u) :
    s.StaysOrFaults u := by
  refine ⟨?_, fun hrun hoff => h.off (by rwa [hd]) (hl hrun hoff)⟩
  rw [← hd]
  exact h.state

/-- The rest of a step is guarded by `andThen`. -/
theorem andThen {s t : State} (h : s.StaysOrFaults t) {f : State → State} (hf : t.StaysOrFaults (f t)) :
    s.StaysOrFaults (t.andThen f) := by
  unfold State.andThen
  split
  · exact h
  next hrun =>
    rcases h.state with hstate | ⟨hfaulted, _⟩
    · exact after hstate h.off hf
    · exact absurd hfaulted hrun

/-- A LinkRests state stays one: outside RUNNING the link is not moved, and FAULTED asks nothing. -/
theorem linkRests {s t : State} (h : s.StaysOrFaults t) (hs : s.LinkRests) : t.LinkRests := by
  intro ht
  rcases h.state with hstate | ⟨hfaulted, _⟩
  · rw [hstate] at ht
    exact h.off (by rcases ht with ht | ht | ht | ht <;> simp [ht]) (hs ht)
  · simp [hfaulted] at ht

theorem faultStopped {s t : State} (h : s.StaysOrFaults t) (hs : s.dev.state ≠ .faulted) : t.FaultStopped := by
  rcases h.state with hstate | ⟨_, hstopped⟩
  · exact fun ht => absurd (hstate ▸ ht) hs
  · exact hstopped

end State.StaysOrFaults

theorem State.enterFaulted_staysOrFaults (s : State) (code : FaultCode) : s.StaysOrFaults (s.enterFaulted code) := by
  cases hw : s.working
  · rw [State.enterFaulted_dropped hw]; exact .refl s
  · refine ⟨.inr ⟨by simp [State.enterFaulted, hw], fun _ => ?_⟩, .of_eq (by simp [State.enterFaulted, hw])⟩
    refine ⟨by simp [State.enterFaulted, hw], by simp [State.enterFaulted, hw], by simp [State.enterFaulted, hw],
      by simp [State.enterFaulted, hw], by simp [State.enterFaulted, hw], by simp [State.enterFaulted, hw],
      fun r q hq => ?_⟩
    have hspec := State.enterFaulted_spec hw code
    obtain ⟨_, _, _, _, _, _, _, _, _, _, hstopped, _⟩ := hspec
    exact hstopped r q hq

/-! ## Parts that leave the device and link states, the regions and the Transmit List alone -/

@[simp] theorem State.raise_state (s : State) (c : Counter) : (s.raise c).dev.state = s.dev.state := rfl

@[simp] theorem State.protocolError_state (s : State) (k : ProtocolKind) (b : Option Byte) :
    (s.protocolError k b).dev.state = s.dev.state := rfl

@[simp] theorem State.transmit_state (s : State) (ep : BitVec 16) (b : FrameBody) :
    (s.transmit ep b).dev.state = s.dev.state := rfl

@[simp] theorem State.loseRecord_state (s : State) : s.loseRecord.dev.state = s.dev.state := rfl

@[simp] theorem State.waitFor_frame (s : State) (ring : Ring) (x : Resource) :
    (s.waitFor ring x).dev = s.dev ∧ (s.waitFor ring x).regions = s.regions ∧ (s.waitFor ring x).stream = s.stream ∧
    (s.waitFor ring x).link = s.link := by
  simp [State.waitFor]

@[simp] theorem State.refuseRecord_frame (s : State) (ring : Ring) (tag : BitVec 16) (st : Status) :
    (s.refuseRecord ring tag st).dev = s.dev ∧ (s.refuseRecord ring tag st).regions = s.regions ∧
    (s.refuseRecord ring tag st).stream = s.stream ∧ (s.refuseRecord ring tag st).link = s.link := by
  simp [State.refuseRecord]

@[simp] theorem State.raiseStaging_frame (s : State) (c : Command) :
    (s.raiseStaging c).dev = s.dev ∧ (s.raiseStaging c).stream = s.stream ∧ (s.raiseStaging c).link = s.link := by
  unfold State.raiseStaging; repeat' split
  all_goals simp

@[simp] theorem State.takeStaging_frame (s : State) (i : Fin 32) (c : Command) (j : Option (Fin 8)) :
    (s.takeStaging i c j).dev = s.dev ∧ (s.takeStaging i c j).regions = s.regions ∧
    (s.takeStaging i c j).stream = s.stream ∧ (s.takeStaging i c j).link = s.link := by
  unfold State.takeStaging; repeat' split
  all_goals simp

@[simp] theorem State.takeBuffer_frame (s : State) (i : Fin 32) (j : Option (Fin 4)) :
    (s.takeBuffer i j).dev = s.dev ∧ (s.takeBuffer i j).regions = s.regions ∧ (s.takeBuffer i j).stream = s.stream ∧
    (s.takeBuffer i j).link = s.link := by
  unfold State.takeBuffer; repeat' split
  all_goals simp

@[simp] theorem State.enrol_frame (s : State) (i : Fin 32) (ring : Ring) (tag : BitVec 16) (c : Command) :
    (s.enrol i ring tag c).dev = s.dev ∧ (s.enrol i ring tag c).stream = s.stream ∧
    (s.enrol i ring tag c).link = s.link := by
  simp [State.enrol]

@[simp] theorem State.admitOrWait_frame (s : State) (ring : Ring) (tag : BitVec 16) (c : Command) :
    (s.admitOrWait ring tag c).dev = s.dev ∧ (s.admitOrWait ring tag c).stream = s.stream ∧
    (s.admitOrWait ring tag c).link = s.link := by
  unfold State.admitOrWait; repeat' split
  all_goals simp

@[simp] theorem State.presentHead_frame (s : State) (ring : Ring) (bytes : List Byte) :
    (s.presentHead ring bytes).dev = s.dev ∧ (s.presentHead ring bytes).stream = s.stream ∧
    (s.presentHead ring bytes).link = s.link := by
  unfold State.presentHead; repeat' split
  all_goals simp

@[simp] theorem State.presentRecord_frame (s : State) :
    (s.presentRecord).dev = s.dev ∧ (s.presentRecord).stream = s.stream ∧ (s.presentRecord).link = s.link := by
  unfold State.presentRecord; repeat' split
  all_goals simp

@[simp] theorem State.takeNotifyConsumer_frame (s : State) (k : Nat) :
    (s.takeNotifyConsumer k).dev = s.dev ∧ (s.takeNotifyConsumer k).regions = s.regions ∧
    (s.takeNotifyConsumer k).stream = s.stream ∧ (s.takeNotifyConsumer k).link = s.link := by
  unfold State.takeNotifyConsumer State.thaw; simp only []; repeat' split
  all_goals simp

@[simp] theorem State.evaluateSlot_frame (p : ApplyReport) (s : State) (k : Fin 16) :
    (State.evaluateSlot p s k).dev = s.dev ∧ (State.evaluateSlot p s k).regions = s.regions ∧
    (State.evaluateSlot p s k).stream = s.stream ∧ (State.evaluateSlot p s k).link = s.link := by
  unfold State.evaluateSlot; simp only []; repeat' split
  all_goals simp

@[simp] theorem State.evaluateSlot_fold_frame (p : ApplyReport) (l : List (Fin 16)) (s : State) :
    (l.foldl (State.evaluateSlot p) s).dev = s.dev ∧ (l.foldl (State.evaluateSlot p) s).regions = s.regions ∧
    (l.foldl (State.evaluateSlot p) s).stream = s.stream ∧ (l.foldl (State.evaluateSlot p) s).link = s.link := by
  induction l generalizing s with
  | nil => simp
  | cons a l ih => simp [ih]

@[simp] theorem State.evaluateReport_frame (s : State) :
    (s.evaluateReport).dev = s.dev ∧ (s.evaluateReport).regions = s.regions ∧ (s.evaluateReport).stream = s.stream ∧
    (s.evaluateReport).link = s.link := by
  unfold State.evaluateReport; repeat' split
  all_goals simp

@[simp] theorem State.placeRecord_frame (s : State) (x : Submission) :
    (s.placeRecord x).dev.state = s.dev.state ∧ (s.placeRecord x).regions = s.regions ∧
    (s.placeRecord x).stream = s.stream ∧ (s.placeRecord x).link = s.link := by
  unfold State.placeRecord State.giveUpOldest State.countLoss; repeat' split
  all_goals simp

@[simp] theorem State.takeSubmission_frame (s : State) :
    (s.takeSubmission).dev.state = s.dev.state ∧ (s.takeSubmission).regions = s.regions ∧
    (s.takeSubmission).stream = s.stream ∧ (s.takeSubmission).link = s.link := by
  unfold State.takeSubmission; repeat' split
  all_goals simp

@[simp] theorem State.notifyMsi_frame (s : State) :
    (s.notifyMsi).dev = s.dev ∧ (s.notifyMsi).regions = s.regions ∧ (s.notifyMsi).stream = s.stream ∧
    (s.notifyMsi).link = s.link := by
  unfold State.notifyMsi; repeat' split
  all_goals simp

@[simp] theorem State.notifyPosted_frame (s : State) (r : NotifyRecord) :
    (s.notifyPosted r).dev = s.dev ∧ (s.notifyPosted r).regions = s.regions ∧ (s.notifyPosted r).stream = s.stream ∧
    (s.notifyPosted r).link = s.link := by
  simp [State.notifyPosted]

@[simp] theorem State.completionMsi_frame (s : State) :
    (s.completionMsi).dev = s.dev ∧ (s.completionMsi).regions = s.regions ∧ (s.completionMsi).stream = s.stream ∧
    (s.completionMsi).link = s.link := by
  unfold State.completionMsi; repeat' split
  all_goals simp

@[simp] theorem State.completionPosted_frame (s : State) (c : Completion) (rest : List Completion) :
    (s.completionPosted c rest).dev = s.dev ∧ (s.completionPosted c rest).regions = s.regions ∧
    (s.completionPosted c rest).stream = s.stream ∧ (s.completionPosted c rest).link = s.link := by
  simp [State.completionPosted]

@[simp] theorem State.frameEnded_frame (s : State) (a : Assembly) (cut : Bool) :
    (s.frameEnded a cut).dev.state = s.dev.state ∧ (s.frameEnded a cut).regions = s.regions ∧
    (s.frameEnded a cut).stream = s.stream ∧ (s.frameEnded a cut).link = s.link := by
  unfold State.frameEnded; repeat' split
  all_goals simp

@[simp] theorem State.eventGroups_frame (s : State) (g : List (List Event)) :
    (s.eventGroups g).dev = s.dev ∧ (s.eventGroups g).regions = s.regions ∧ (s.eventGroups g).stream = s.stream ∧
    (s.eventGroups g).link = s.link := by
  simp [State.eventGroups]

@[simp] theorem State.settleOffer_frame (s : State) :
    (s.settleOffer).dev = s.dev ∧ (s.settleOffer).regions = s.regions ∧ (s.settleOffer).stream = s.stream ∧
    (s.settleOffer).link = s.link := by
  unfold State.settleOffer; repeat' split
  all_goals simp

@[simp] theorem State.sweepTick_frame (s : State) :
    (s.sweepTick).dev.state = s.dev.state ∧ (s.sweepTick).regions = s.regions ∧ (s.sweepTick).stream = s.stream ∧
    (s.sweepTick).link = s.link := by
  unfold State.sweepTick State.overrunTaken; repeat' split
  all_goals simp

@[simp] theorem State.setHeld_frame (s : State) (r : Fin 64) (b : Bool) :
    (s.setHeld r b).dev = s.dev ∧ (s.setHeld r b).stream = s.stream ∧ (s.setHeld r b).link = s.link := by
  simp [State.setHeld]


end Sys2Proof.Machine
end

section
/-! The grant step, WRITE commands, the refresh and acknowledgements keep the device state or enter FAULTED. -/

namespace Sys2Proof.Machine

/-! ## Parts that may meet a parity error -/

open State.StaysOrFaults

theorem State.grantStep_staysOrFaults (s : State) (r : Fin 64) : s.StaysOrFaults (s.grantStep r) := by
  unfold State.grantStep
  split
  · split
    · exact of_eq rfl rfl
    · exact s.enterFaulted_staysOrFaults _
  · exact of_eq rfl rfl

theorem State.grantIfDue_staysOrFaults (s : State) (r : Fin 64) : s.StaysOrFaults (s.grantIfDue r) := by
  unfold State.grantIfDue
  split
  · exact s.grantStep_staysOrFaults r
  · exact refl s

theorem State.writeCompletes_staysOrFaults (s : State) (i : Fin 32) (e : OctEntry) (r : Fin 64) (st : Status)
    (info : Info) : s.StaysOrFaults (s.writeCompletes i e r st info) :=
  after (by simp) (.of_eq (by simp)) (State.grantIfDue_staysOrFaults _ r)

theorem State.presentWrite_staysOrFaults (s : State) (i : Fin 32) (e : OctEntry) (r : Fin 64) (offset : Nat)
    (words : List Word) (waitRemote : Bool) : s.StaysOrFaults (s.presentWrite i e r offset words waitRemote) := by
  unfold State.presentWrite
  simp only []
  split
  · split
    · exact after (by simp) (.of_eq (by simp)) (State.writeCompletes_staysOrFaults ..)
    · exact of_eq rfl rfl
  · split
    · split
      · exact after (by simp) (.of_eq (by simp)) (State.grantIfDue_staysOrFaults ..)
      · exact after (by simp) (.of_eq (by simp)) (State.writeCompletes_staysOrFaults ..)
    · exact of_eq rfl rfl

theorem State.writeEffect_staysOrFaults (s : State) (i : Fin 32) (e : OctEntry) (r : Fin 64) (offset : Nat)
    (source : WriteSource) (waitRemote : Bool) :
    s.StaysOrFaults (s.writeEffect i e r offset source waitRemote) := by
  have applied (words : List Word) (st : Status) (info : Info) :
      s.StaysOrFaults ((s.apply r offset words .localHost).writeCompletes i e r st info) :=
    after (by simp) (.of_eq (by simp)) (State.writeCompletes_staysOrFaults ..)
  unfold State.writeEffect
  simp only []
  split
  · exact State.writeCompletes_staysOrFaults ..
  split
  · exact State.writeCompletes_staysOrFaults ..
  split
  · exact State.writeCompletes_staysOrFaults ..
  split
  · exact applied ..
  split
  · exact State.presentWrite_staysOrFaults ..
  · exact applied ..

theorem State.presentHeadWrite_staysOrFaults (s : State) : s.StaysOrFaults s.presentHeadWrite := by
  unfold State.presentHeadWrite
  split
  · exact refl s
  split
  · exact refl s
  split
  · exact State.presentWrite_staysOrFaults ..
  · exact refl s

/-! ## The refresh cursor and waiting requesters -/

@[simp] theorem State.refreshSearch_link (s : State) (first : Nat) :
    (s.refreshSearch first).link.state = s.link.state := by
  unfold State.refreshSearch; split <;> simp

/-- A cursor that goes on has left the device and link states alone. -/
theorem State.refreshStep_goesOn {s : State} {c : RefreshCursor} (h : (s.refreshStep c).2 = true) :
    (s.refreshStep c).1.dev = s.dev ∧ (s.refreshStep c).1.link.state = s.link.state := by
  revert h
  unfold State.refreshStep
  simp only []
  repeat' split
  all_goals simp

theorem State.refreshStep_staysOrFaults (s : State) (c : RefreshCursor) : s.StaysOrFaults (s.refreshStep c).1 := by
  unfold State.refreshStep
  simp only []
  split
  · split
    · exact of_eq rfl rfl
    split
    · split
      · exact s.enterFaulted_staysOrFaults _
      · split <;> exact of_eq (by simp) (by simp)
    · exact of_eq rfl rfl
  · exact of_eq (by simp) (by simp)

theorem State.refreshRun_staysOrFaults (fuel : Nat) (s : State) : s.StaysOrFaults (State.refreshRun fuel s) := by
  induction fuel generalizing s with
  | zero => exact refl s
  | succ n ih =>
    unfold State.refreshRun
    split
    · exact refl s
    next c _ =>
      split
      next h =>
        obtain ⟨hd, hl⟩ := State.refreshStep_goesOn h
        exact after (by rw [hd]) (.of_eq hl) (ih _)
      · exact s.refreshStep_staysOrFaults c

theorem State.presentRequester_staysOrFaults (s : State) (q : Requester) : s.StaysOrFaults (s.presentRequester q) := by
  cases q
  case write => exact s.presentHeadWrite_staysOrFaults
  case refresh => exact State.refreshRun_staysOrFaults _ s

theorem State.presentNext_fold_staysOrFaults {s t : State} (h : s.StaysOrFaults t) (l : List Requester) :
    s.StaysOrFaults (l.foldl State.presentNext t) := by
  induction l generalizing t with
  | nil => exact h
  | cons q l ih => exact ih (h.andThen (State.presentRequester_staysOrFaults t q))

theorem State.presentWaiting_staysOrFaults (s : State) : s.StaysOrFaults s.presentWaiting :=
  State.presentNext_fold_staysOrFaults (of_eq (by simp) (by simp)) _

/-! ## Acknowledgements -/

theorem State.tryUp_off (s : State) : s.LinkStaysOff s.tryUp := by
  unfold State.tryUp
  split
  next h => exact .of_ne (by simp [h.1])
  · exact .of_eq rfl

theorem State.frameAcknowledged_off (s : State) (f : TxEntry) : s.LinkStaysOff (s.frameAcknowledged f) := by
  unfold State.frameAcknowledged
  split
  case h_3 => exact fun hrun hoff => State.tryUp_off { s with link.syncSent := true } hrun hoff
  all_goals
    repeat' split
    all_goals exact .of_eq (by simp)

theorem State.frameAcknowledged_fold_off (l : List TxEntry) (s : State) :
    s.LinkStaysOff (l.foldl State.frameAcknowledged s) := by
  induction l generalizing s with
  | nil => exact .of_eq rfl
  | cons f l ih => exact fun hrun hoff => ih _ (by simpa using hrun) (s.frameAcknowledged_off f hrun hoff)

theorem State.takeAcknowledgement_staysOrFaults (s : State) (count : Nat) :
    s.StaysOrFaults (s.takeAcknowledgement count) := by
  have hoff := State.frameAcknowledged_fold_off (s.stream.list.take count)
    { s with stream.list := s.stream.list.drop count }
  unfold State.takeAcknowledgement
  simp only []
  split
  · exact after (by simp) (by simpa [State.LinkStaysOff] using hoff) (State.presentWaiting_staysOrFaults _)
  · exact ⟨.inl (by simp), by simpa [State.LinkStaysOff] using hoff⟩

theorem State.processAck_staysOrFaults (s : State) (n : BitVec 8) : s.StaysOrFaults (s.processAck n) := by
  unfold State.processAck
  simp only []
  repeat' split
  · exact s.takeAcknowledgement_staysOrFaults _
  · exact of_eq (by simp) (by simp)
  · exact refl s

end Sys2Proof.Machine
end

section
/-! What a link loss does (R42, R63, R78, R84, R98, R99, R113, R126): the completions it requests, its parts one by one,
and the two orders its last parts may have. -/

namespace Sys2Proof.Machine

/-! ## Completions that have joined the posting queue -/

/-- The entry in place `j` after completions of these have been requested. -/
def OctEntry.settledBy (cs : List Completion) (j : Fin 32) (e : OctEntry) : OctEntry :=
  if cs.any fun c => c.entry = some j then e.finished else e

/-- The completions `cs` have joined the posting queue and their entries are finished; the rest of the Ring Manager but
the two submission rings, and the read buffers and the statistics copy, are as before. -/
structure State.Posts (s t : State) (cs : List Completion) : Prop where
  rings   : t.rings = { s.rings with
    urgent := t.rings.urgent, normal := t.rings.normal, posting := s.rings.posting ++ cs }
  buffers : t.cmd.buffers = s.cmd.buffers
  copy    : t.cmd.statsCopy = s.cmd.statsCopy
  entry   : ∀ j, t.entry j = (s.entry j).map (OctEntry.settledBy cs j)

/-- What a command that completes without a staging slot leaves as it was beside that. -/
structure State.Settles (s t : State) (cs : List Completion) : Prop extends State.Posts s t cs where
  urgent  : t.rings.urgent = s.rings.urgent
  normal  : t.rings.normal = s.rings.normal
  queue   : t.cmd.queue = s.cmd.queue
  staging : t.cmd.staging = s.cmd.staging

@[simp] theorem OctEntry.settledBy_nil (j : Fin 32) : OctEntry.settledBy [] j = id := rfl

theorem OctEntry.settledBy_of_mem {cs : List Completion} {j : Fin 32} (h : ∃ c ∈ cs, c.entry = some j) (e : OctEntry) :
    OctEntry.settledBy cs j e = e.finished := by
  rw [OctEntry.settledBy, if_pos (by simpa using h)]

theorem OctEntry.settledBy_of_not_mem {cs : List Completion} {j : Fin 32} (h : ¬ ∃ c ∈ cs, c.entry = some j)
    (e : OctEntry) : OctEntry.settledBy cs j e = e := by
  rw [OctEntry.settledBy, if_neg (by simpa using h)]

theorem OctEntry.settledBy_append (cs ds : List Completion) (j : Fin 32) (e : OctEntry) :
    OctEntry.settledBy ds j (OctEntry.settledBy cs j e) = OctEntry.settledBy (cs ++ ds) j e := by
  unfold OctEntry.settledBy
  simp only [List.any_append, Bool.or_eq_true]
  by_cases hc : (cs.any fun c => decide (c.entry = some j)) = true <;>
    by_cases hd : (ds.any fun c => decide (c.entry = some j)) = true <;> simp [hc, hd, OctEntry.finished]

/-- Completing an entry keeps what its completion record names. -/
theorem OctEntry.settledBy_names (cs : List Completion) (j : Fin 32) (e : OctEntry) :
    (OctEntry.settledBy cs j e).ring = e.ring ∧ (OctEntry.settledBy cs j e).tag = e.tag ∧
    (OctEntry.settledBy cs j e).info = e.info ∧ (OctEntry.settledBy cs j e).command = e.command := by
  unfold OctEntry.settledBy
  split <;> exact ⟨rfl, rfl, rfl, rfl⟩

namespace State.Posts

theorem completionOf {s t : State} {cs : List Completion} (h : s.Posts t cs) (i : Fin 32) (st : Status) (info : Info) :
    t.completionOf i st info = s.completionOf i st info := by
  unfold State.completionOf
  rw [h.entry, Option.map_map]
  congr 1
  funext e
  simp [OctEntry.settledBy_names]

theorem trans {s t u : State} {cs ds : List Completion} (h : s.Posts t cs) (k : t.Posts u ds) : s.Posts u (cs ++ ds) where
  rings := by rw [k.rings, h.rings, List.append_assoc]
  buffers := k.buffers.trans h.buffers
  copy := k.copy.trans h.copy
  entry j := by
    rw [k.entry, h.entry, Option.map_map]
    congr 1
    funext e
    exact OctEntry.settledBy_append cs ds j e

end State.Posts

namespace State.Settles

theorem trans {s t u : State} {cs ds : List Completion} (h : s.Settles t cs) (k : t.Settles u ds) :
    s.Settles u (cs ++ ds) where
  toPosts := h.toPosts.trans k.toPosts
  urgent := k.urgent.trans h.urgent
  normal := k.normal.trans h.normal
  queue := k.queue.trans h.queue
  staging := k.staging.trans h.staging

/-- A part that touches neither the Ring Manager nor the Command Engine requests no completion. -/
theorem of_eq {s t : State} (hr : t.rings = s.rings) (hc : t.cmd = s.cmd) : s.Settles t [] where
  rings := by simp [hr]
  buffers := by rw [hc]
  copy := by rw [hc]
  entry j := by simp [State.entry, hc]
  urgent := by rw [hr]
  normal := by rw [hr]
  queue := by rw [hc]
  staging := by rw [hc]

theorem congr {s t : State} {cs ds : List Completion} (h : s.Settles t cs) (e : cs = ds) : s.Settles t ds := e ▸ h

end State.Settles

theorem State.requestCompletion_settles (s : State) (i : Fin 32) (st : Status) (info : Info) :
    s.Settles (s.requestCompletion i st info) (s.completionOf i st info).toList := by
  cases he : s.entry i
  case none =>
    have hsame : s.requestCompletion i st info = s := by simp [State.requestCompletion, he]
    rw [hsame]
    simpa [State.completionOf, he] using State.Settles.of_eq (s := s) (t := s) rfl rfl
  case some e =>
    rw [State.requestCompletion_eq he]
    have hcs : (s.completionOf i st info).toList =
        [{ ring := e.ring, tag := e.tag, status := st, info := info, entry := some i }] := by
      simp [State.completionOf, he]
    rw [hcs]
    refine ⟨⟨rfl, rfl, rfl, fun j => ?_⟩, rfl, rfl, rfl, rfl⟩
    have hj : (s.withCompletion i e st info).entry j = if j = i then some e.finished else s.entry j := by
      unfold State.entry State.withCompletion
      split
      next h => subst h; simp
      next h => exact Vector.getElem_set_ne i.2 j.2 fun hv => h (Fin.ext hv.symm)
    rw [hj]
    by_cases h : j = i
    · subst h; simp [he, OctEntry.settledBy]
    · have hne : i ≠ j := fun hij => h hij.symm
      rw [if_neg h]
      cases s.entry j <;> simp [OctEntry.settledBy, hne]

/-- The completion of a WRITE that a frame was the last of (R63, R127). -/
def State.writeOf (s : State) (st : Status) (f : TxEntry) : Option Completion :=
  match f.content, f.owner with
  | .update _ _ _ true _ _, some i => (s.entry i).bind fun e => s.completionOf i st e.info
  | _, _ => none

theorem State.writesOf_eq (s : State) (l : List TxEntry) (st : Status) : s.writesOf l st = l.filterMap (s.writeOf st) :=
  rfl

theorem State.Posts.writeOf {s t : State} {cs : List Completion} (h : s.Posts t cs) (st : Status) :
    t.writeOf st = s.writeOf st := by
  funext f
  unfold State.writeOf
  split
  next i _ _ =>
    rw [h.entry]
    cases s.entry i <;> simp [h.completionOf, OctEntry.settledBy_names]
  · rfl

theorem State.frameDiscarded_settles (s : State) (f : TxEntry) :
    s.Settles (s.frameDiscarded f) (s.writeOf .unconfirmed f).toList := by
  unfold State.frameDiscarded
  split
  next i hc ho =>
    simp only [State.writeOf, State.completeWrite, hc, ho]
    cases he : s.entry i
    case none => exact .of_eq rfl rfl
    case some e => exact s.requestCompletion_settles i .unconfirmed e.info
  next hno =>
    have hnone : s.writeOf .unconfirmed f = none := by
      unfold State.writeOf
      split
      next hc ho => exact (hno _ _ _ _ _ _ hc ho).elim
      · rfl
    rw [hnone]
    exact .of_eq rfl rfl

theorem State.frameDiscarded_fold_settles (l : List TxEntry) (s : State) :
    s.Settles (l.foldl State.frameDiscarded s) (s.writesOf l .unconfirmed) := by
  induction l generalizing s with
  | nil => exact .of_eq rfl rfl
  | cons f l ih =>
    have h := s.frameDiscarded_settles f
    refine (h.trans (ih _)).congr ?_
    rw [State.writesOf_eq, State.writesOf_eq, h.writeOf, List.filterMap_cons]
    cases s.writeOf .unconfirmed f <;> rfl

/-! ## Waiting FENCE commands -/

/-- The completion of the FENCE in an entry, with its mark (R131, R132). -/
def State.fenceOf (s : State) (st : Status) (i : Fin 32) : Option Completion :=
  (s.entry i).bind fun e => s.completionOf i st (fenceInfo e.mark)

theorem State.completeFence_settles (s : State) (st : Status) (i : Fin 32) :
    s.Settles (State.completeFence st s i) (s.fenceOf st i).toList := by
  unfold State.completeFence State.fenceOf
  cases he : s.entry i
  case none => exact .of_eq rfl rfl
  case some e => exact s.requestCompletion_settles i st (fenceInfo e.mark)

theorem State.fenceOf_entry {s : State} {st : Status} {i : Fin 32} {c : Completion} (h : s.fenceOf st i = some c) :
    c.entry = some i := by
  obtain ⟨e, _, h⟩ := Option.bind_eq_some_iff.1 h
  obtain ⟨_, _, rfl⟩ := Option.map_eq_some_iff.1 h
  rfl

/-- Different entries complete with the marks they had before. -/
theorem State.completeFence_fold_settles (l : List (Fin 32)) (hl : l.Nodup) (st : Status) (s : State) :
    s.Settles (l.foldl (State.completeFence st) s) (l.filterMap (s.fenceOf st)) := by
  induction l generalizing s with
  | nil => exact .of_eq rfl rfl
  | cons i l ih =>
    obtain ⟨hi, hl⟩ := List.nodup_cons.1 hl
    have h := s.completeFence_settles st i
    refine (h.trans (ih hl _)).congr ?_
    have hsame : l.filterMap ((State.completeFence st s i).fenceOf st) = l.filterMap (s.fenceOf st) := by
      refine List.filterMap_congr fun j hj => ?_
      have hne : ∀ c ∈ (s.fenceOf st i).toList, c.entry ≠ some j := by
        intro c hc heq
        have hentry := State.fenceOf_entry (Option.mem_toList.1 hc)
        rw [hentry] at heq
        exact hi (Option.some.inj heq ▸ hj)
      have hentry : (State.completeFence st s i).entry j = s.entry j := by
        rw [h.entry]
        cases s.entry j
        · rfl
        · simp only [Option.map_some, OctEntry.settledBy, Option.some.injEq]
          rw [if_neg]
          simpa using hne
      unfold State.fenceOf
      simp only [hentry, h.completionOf]
    rw [hsame, List.filterMap_cons]
    cases s.fenceOf st i <;> rfl

end Sys2Proof.Machine
end

section
/-! The Stream Controller's part of a link loss, and the state in which its last parts start (R63, R99). -/

namespace Sys2Proof.Machine

/-! ## The stream's part (R63) -/

/-- A completion record but for its information words. -/
def Completion.bare (c : Completion) : Completion := { c with info := .zero }

@[simp] theorem State.completionOf_bare (s : State) (i : Fin 32) (st : Status) (info : Info) :
    (s.completionOf i st info).map Completion.bare = s.completionOf i st .zero := by
  unfold State.completionOf
  cases s.entry i <;> rfl

@[simp] theorem State.completionOf_chosen (s : State) (n : Nat) : (s.chosen n).completionOf = s.completionOf := by
  funext i st info
  simp [State.completionOf, State.entry]

/-- The completions of the FENCE commands that wait as a loss is taken: of those which no WRITE completion of the same
loss names (R63). -/
def State.lossFences (s : State) : List Completion :=
  (List.finRange 32).filterMap fun i => (s.entry i).bind fun e =>
    if e.command = .fence ∧ e.phase = .awaitingEvent ∧
        (s.writesOf s.stream.list .unconfirmed).all fun c => c.entry ≠ some i then
      s.completionOf i .linkLost (fenceInfo e.mark)
    else none

/-- The FENCE commands found waiting once the list's WRITE commands have completed. -/
theorem State.waitingFences_complete {s t : State} {l : List TxEntry} (hl : s.stream.list = l)
    (h : s.Settles t (s.writesOf l .unconfirmed)) :
    (t.waitingFences fun _ => true).filterMap (t.fenceOf .linkLost) = s.lossFences := by
  subst hl
  unfold State.waitingFences State.awaiting State.lossFences
  rw [List.filterMap_filter]
  refine List.filterMap_congr fun i _ => ?_
  unfold State.fenceOf
  rw [h.entry]
  cases s.entry i with
  | none => rfl
  | some e =>
    simp only [Option.map_some, Option.bind_some, h.completionOf]
    by_cases hw : ∃ c ∈ s.writesOf s.stream.list .unconfirmed, c.entry = some i
    · have hall : ((s.writesOf s.stream.list .unconfirmed).all fun c => c.entry ≠ some i) = false := by
        simpa using hw
      rw [OctEntry.settledBy_of_mem hw, hall]
      simp [OctEntry.finished]
    · have hall : ((s.writesOf s.stream.list .unconfirmed).all fun c => c.entry ≠ some i) = true := by
        simpa using hw
      rw [OctEntry.settledBy_of_not_mem hw, hall]
      simp [OctEntry.isFence, and_comm]

theorem State.Settles.of_frame {s t u : State} {cs : List Completion} (h : s.Settles t cs) (hr : u.rings = t.rings)
    (hc : u.cmd = t.cmd) : s.Settles u cs := by
  simpa using h.trans (State.Settles.of_eq hr hc)

/-- Each waiting FENCE completes, in some order (R63). -/
theorem State.completeFences_settles (s : State) (p : OctEntry → Bool) (st : Status) :
    ∃ cs, s.Settles (s.completeFences p st) cs ∧ cs.Perm ((s.waitingFences p).filterMap (s.fenceOf st)) := by
  have horder := freeOrder_perm s.choices (s.waitingFences p)
  have hnodup : (freeOrder s.choices (s.waitingFences p)).Nodup := by
    rw [horder.nodup_iff]
    unfold State.waitingFences State.awaiting
    exact (List.nodup_finRange 32).filter _
  have hchosen : s.Settles (s.chosen (s.waitingFences p).length) [] := .of_eq (by simp) (by simp)
  refine ⟨_, hchosen.trans (State.completeFence_fold_settles _ hnodup st _), ?_⟩
  have hsame : (s.chosen (s.waitingFences p).length).fenceOf st = s.fenceOf st := by
    funext i
    simp [State.fenceOf, State.entry]
  rw [hsame, List.nil_append]
  exact horder.filterMap _

/-- Emptying the list completes its WRITE commands in the order of the frames, and then the FENCE commands that wait
(R63). -/
theorem State.emptyStream_settles (s : State) :
    ∃ fences, s.Settles s.emptyStream (s.writesOf s.stream.list .unconfirmed ++ fences) ∧
      fences.Perm s.lossFences := by
  have hwrites := State.frameDiscarded_fold_settles s.stream.list { s with stream := { s.stream with
    list := [], timer := none, retryCount := 0, ackDue := false, sessionAcked := false } }
  have hstart : s.Settles { s with stream := { s.stream with
    list := [], timer := none, retryCount := 0, ackDue := false, sessionAcked := false } } [] := .of_eq rfl rfl
  have hall := hstart.trans hwrites
  obtain ⟨fences, hfences, hperm⟩ := State.completeFences_settles (s.stream.list.foldl State.frameDiscarded
    { s with stream := { s.stream with
      list := [], timer := none, retryCount := 0, ackDue := false, sessionAcked := false } }) (fun _ => true) .linkLost
  refine ⟨fences, hall.trans hfences, ?_⟩
  rwa [State.waitingFences_complete rfl hall] at hperm

/-! ## The state before the last parts of a loss -/

/-- A loss up to the commands that it settles last: the session is dropped, the stream emptied, the sweep stopped and
the pending requests dropped (R99). -/
def State.lossCore (s : State) (reason : LossReason) : State :=
  (s.dropSession reason).emptyStream.stopSweep.dropRequests

/-- That state with the number of the choice among its last parts used up. -/
def State.lossBase (s : State) (reason : LossReason) : State :=
  (s.lossCore reason).chosen (s.lossCore reason).lossParts.length

/-- A loss after all its parts but the event and the entry to SEEKING. -/
def State.lossEnd (s : State) (reason : LossReason) : State :=
  (freeOrder (s.lossCore reason).choices (s.lossCore reason).lossParts).foldl State.taking (s.lossBase reason)

theorem State.linkLoss_eq (s : State) (reason : LossReason) :
    s.linkLoss reason =
      if reason.endsOff then (s.lossEnd reason).event (.linkLost reason)
      else ((s.lossEnd reason).event (.linkLost reason)).enterSeeking := rfl

theorem State.emptyStream_stream (s : State) : s.emptyStream.stream = { s.stream with
    list := [], timer := none, retryCount := 0, ackDue := false, sessionAcked := false } := by
  simp [State.emptyStream]

theorem State.lossBase_settles (s : State) (reason : LossReason) :
    ∃ fences, s.Settles (s.lossBase reason) (s.writesOf s.stream.list .unconfirmed ++ fences) ∧
      fences.Perm s.lossFences := by
  obtain ⟨fences, h, hperm⟩ := (s.dropSession reason).emptyStream_settles
  have hstart : s.Settles (s.dropSession reason) [] := .of_eq rfl rfl
  exact ⟨fences, (hstart.trans h).of_frame (by simp [State.lossBase, State.lossCore])
    (by simp [State.lossBase, State.lossCore]), hperm⟩

theorem State.dropSession_dev (s : State) (reason : LossReason) :
    (s.dropSession reason).dev = (s.counted .linkLosses).dev := by
  rw [← State.raise_eq, State.dropSession]

/-- What the loss has done to the blocks it does not settle commands of. -/
theorem State.lossBase_blocks (s : State) (reason : LossReason) :
    (s.lossBase reason).dev = (s.counted .linkLosses).dev ∧ (s.lossBase reason).notif = s.notif ∧
    (s.lossBase reason).link = (s.dropSession reason).link ∧
    (s.lossBase reason).framer = (s.dropSession reason).framer ∧
    (s.lossBase reason).sweep = { timer := none, number := s.sweep.number, cursor := none, offered := none,
                                  pending := false, overrun := false } ∧
    (s.lossBase reason).stream = { s.stream with
      list := [], timer := none, retryCount := 0, ackDue := false, sessionAcked := false } ∧
    (s.lossBase reason).mirror = s.mirror ∧ (s.lossBase reason).watch = s.watch ∧
    (s.lossBase reason).emitted = s.emitted ∧ (s.lossBase reason).hostMem = s.hostMem ∧
    (s.lossBase reason).pinLinkAct = s.pinLinkAct := by
  simp [State.lossBase, State.lossCore, State.emptyStream_stream, State.dropSession_dev, State.stopSweep]

theorem State.lossBase_region (s : State) (reason : LossReason) (r : Fin 64) :
    (s.lossBase reason).region r = { s.region r with pending := none, lastSweep := none, age := 0 } := by
  have hsweep (t : State) : t.stopSweep.region r =
      (t.mapRegions fun _ e => { e with lastSweep := none, age := 0 }).region r := by
    simp only [State.region, State.stopSweep]
  have hstream : (s.dropSession reason).emptyStream.region r = s.region r := by
    simp [State.region]
  have hchosen : (s.lossBase reason).region r = (s.lossCore reason).region r := by
    simp [State.lossBase, State.region]
  rw [hchosen, State.lossCore, State.dropRequests, State.region_mapRegions, hsweep, State.region_mapRegions, hstream]

end Sys2Proof.Machine
end

section
/-! The last parts of a link loss one by one: the hand-over commands and the waiting WRITE (R42, R126). -/

namespace Sys2Proof.Machine

/-! ## The ownership part (R42) -/

/-- The completions of the CLAIM of each CLAIMING region and the RELEASE of each GRANTING region, but for their
summaries (R42). -/
def State.lossHandOvers (s : State) : List Completion :=
  (List.finRange 64).filterMap fun r => match (s.region r).state with
    | .claiming => (s.region r).claimEntry.bind fun i => s.completionOf i .linkLost .zero
    | .granting => (s.region r).releaseEntry.bind fun i => s.completionOf i .unconfirmed .zero
    | _ => none

/-- A region as the ownership part of a loss leaves it (R42). -/
def RegionEntry.lost (e : RegionEntry) : RegionEntry := e.afterLoss.markStale

theorem RegionEntry.lost_eq (e : RegionEntry) : e.lost = { e with
    state := if e.state = .claiming then .there else e.state
    claimEntry := if e.state = .claiming then none else e.claimEntry
    releaseEntry := if e.state = .granting then none else e.releaseEntry
    stale := e.stale || decide (e.state = .claiming ∨ e.state = .there) } := by
  obtain ⟨_, state, _, _, _, _, _, _, _, _, _⟩ := e
  cases state <;> simp [RegionEntry.lost, RegionEntry.afterLoss, RegionEntry.markStale]

/-- Commands complete one by one, each with some summary. -/
theorem State.settleCommand_fold_settles (l : List (Fin 64 × Fin 32 × Status)) (s : State) :
    ∃ cs, s.Settles (l.foldl State.settleCommand s) cs ∧
      cs.map Completion.bare = l.filterMap fun c => s.completionOf c.2.1 c.2.2 .zero := by
  induction l generalizing s with
  | nil => exact ⟨[], .of_eq rfl rfl, rfl⟩
  | cons c l ih =>
    have h : s.Settles (s.settleCommand c) _ := s.requestCompletion_settles c.2.1 c.2.2 (s.summary c.1)
    obtain ⟨cs, hcs, hbare⟩ := ih (s.settleCommand c)
    refine ⟨_, h.trans hcs, ?_⟩
    rw [List.map_append, hbare, List.filterMap_cons]
    have hone := s.completionOf_bare c.2.1 c.2.2 (s.summary c.1)
    simp only [h.completionOf]
    rw [← hone]
    cases s.completionOf c.2.1 c.2.2 (s.summary c.1) <;> rfl

theorem State.handOverCommands_complete (s : State) :
    (s.handOverCommands.filterMap fun c => s.completionOf c.2.1 c.2.2 .zero) = s.lossHandOvers := by
  unfold State.handOverCommands State.lossHandOvers
  rw [List.filterMap_filterMap]
  refine List.filterMap_congr fun r _ => ?_
  cases (s.region r).state
  case claiming => cases (s.region r).claimEntry <;> rfl
  case granting => cases (s.region r).releaseEntry <;> rfl
  all_goals rfl

/-- The ownership part completes the CLAIM and RELEASE commands, in some order (R42). -/
theorem State.settleOwnership_settles (s : State) :
    ∃ cs, s.Settles s.settleOwnership cs ∧ (cs.map Completion.bare).Perm s.lossHandOvers := by
  have hstart : s.Settles ((s.mapRegions fun _ e => e.afterLoss).chosen s.handOverCommands.length) [] :=
    .of_eq (by simp) (by simp)
  obtain ⟨cs, hcs, hbare⟩ := State.settleCommand_fold_settles (freeOrder s.choices s.handOverCommands)
    ((s.mapRegions fun _ e => e.afterLoss).chosen s.handOverCommands.length)
  refine ⟨cs, (hstart.trans hcs).of_frame (by simp [State.settleOwnership]) (by simp [State.settleOwnership]), ?_⟩
  rw [hbare, ← State.handOverCommands_complete]
  simp only [hstart.completionOf]
  exact (freeOrder_perm _ _).filterMap _

theorem State.settleOwnership_region (s : State) (r : Fin 64) : s.settleOwnership.region r = (s.region r).lost := by
  unfold State.settleOwnership
  rw [State.region_mapRegions]
  have hfold (l : List (Fin 64 × Fin 32 × Status)) :
      (l.foldl State.settleCommand ((s.mapRegions fun _ e => e.afterLoss).chosen s.handOverCommands.length)).region r =
        (s.region r).afterLoss := by
    rw [State.region, (State.settleCommand_fold_frame l _).2.2.1, (State.chosen_frame _ _).2.2.1]
    exact State.region_mapRegions s _ r
  rw [hfold]
  rfl

/-! ## The waiting WRITE (R46, R126) -/

/-- No session runs and no peer request pends: what a loss has brought about before its last parts. -/
structure State.Lost (s : State) : Prop where
  silent    : s.streaming = false
  norequest : ∀ r, (s.region r).pending = none

theorem State.grantIfDue_of_no_request {s : State} {r : Fin 64} (h : (s.region r).pending = none) :
    s.grantIfDue r = s := by
  simp [State.grantIfDue, h]

@[simp] theorem State.headDone_region (s : State) (i : Fin 32) (rest : List (Fin 32)) (e : OctEntry) (st : Status)
    (info : Info) (r : Fin 64) : (s.headDone i rest e st info).region r = s.region r := rfl

@[simp] theorem State.apply_region (s : State) (r q : Fin 64) (o : Nat) (ws : List Word) (src : ApplySource) :
    (s.apply r o ws src).region q = s.region q := rfl

/-- A WRITE told to present after a loss: in RUNNING it commits and completes OK_LOCAL, and otherwise it ceases to
wait. -/
theorem State.presentWrite_lost {s : State} (h : s.Lost) {i : Fin 32} {rest : List (Fin 32)} {e : OctEntry}
    (he : s.cmd.oct[i] = some e) (hq : s.cmd.queue = i :: rest) (r : Fin 64) (offset : Nat) (words : List Word)
    (waitRemote : Bool) :
    s.presentWrite i e r offset words waitRemote =
      if s.dev.state = .running then
        ((s.apply r offset words .localHost).unstaged r e).headDone i rest e .okLocal (s.writeInfo r words.length)
      else { s with stream.waitWrite := false } := by
  unfold State.presentWrite
  simp only [h.silent, if_true]
  split
  · rw [State.writeCompletes_eq (rest := rest) (by simpa using he) (by simpa using hq), State.grantIfDue_of_no_request]
    rw [State.headDone_region, State.region_unstaged]
    split <;> simp [h.norequest]
  · rfl

/-- The WRITE that waits at the head of the queue (R126). -/
structure State.HeadWrite (s : State) (i : Fin 32) (rest : List (Fin 32)) (e : OctEntry) (r : Fin 64) (offset : Nat)
    (source : WriteSource) : Prop where
  queue : s.cmd.queue = i :: rest
  entry : s.cmd.oct[i] = some e
  write : ∃ count waitRemote, e.command = .write r offset count source waitRemote

/-- What the waiting WRITE leaves behind when a loss refuses its batch in RUNNING. -/
def State.wroteLocally (s : State) (i : Fin 32) (rest : List (Fin 32)) (e : OctEntry) (r : Fin 64) (offset : Nat)
    (source : WriteSource) : State :=
  ((s.apply r offset (s.writeWords e source) .localHost).unstaged r e).headDone i rest e .okLocal
    (s.writeInfo r (s.writeWords e source).length)

theorem State.presentHeadWrite_lost {s : State} (h : s.Lost) {i : Fin 32} {rest : List (Fin 32)} {e : OctEntry}
    {r : Fin 64} {offset : Nat} {source : WriteSource} (hw : s.HeadWrite i rest e r offset source) :
    s.presentHeadWrite = if s.dev.state = .running then s.wroteLocally i rest e r offset source
      else { s with stream.waitWrite := false } := by
  obtain ⟨hq, he, _, _, hc⟩ := hw
  have he' : s.entry i = some e := he
  simp only [State.presentHeadWrite, hq, he', hc]
  exact State.presentWrite_lost h he hq ..

/-! ## Freed slots -/

theorem State.freeStaging_staging (s : State) (slot : Option (Fin 8)) (j : Fin 8) :
    (s.freeStaging slot).cmd.staging[j] = if slot = some j then none else s.cmd.staging[j] := by
  cases slot with
  | none => rfl
  | some k =>
    have hset : ((s.freeStaging (some k)).cmd.staging[j] : Option StagingSlot) = (s.cmd.staging.set k none)[j] := rfl
    rw [hset]
    by_cases h : k = j
    · subst h; simp
    · have hne : (k : Nat) ≠ j := fun hv => h (Fin.ext hv)
      simp [h, Vector.getElem_set_ne, hne]

theorem State.freeStaging_subRing (s : State) (slot : Option (Fin 8)) (ring : Ring) :
    (s.freeStaging slot).subRing ring =
      if slot.isSome = true ∧ (s.subRing ring).waiting = some .stagingSlot then
        { s.subRing ring with waiting := none }
      else s.subRing ring := by
  cases slot with
  | none => simp [State.freeStaging]
  | some k =>
    have hoffer : (s.freeStaging (some k)).subRing ring = (s.subRing ring).offer .stagingSlot :=
      State.subRing_offerResource _ _ ring
    simp [hoffer, SubRing.offer]

end Sys2Proof.Machine
end

section
/-! The last parts of a link loss together, in either order (log entry 14). -/

namespace Sys2Proof.Machine

/-! ## What the last parts of a loss leave alone -/

/-- The blocks that neither of the last parts of a loss touches, and the stream but for the waiting mark. -/
structure State.LossKeeps (s t : State) : Prop where
  dev     : t.dev = s.dev
  link    : t.link = s.link
  framer  : t.framer = s.framer
  sweep   : t.sweep = s.sweep
  notif   : t.notif = s.notif
  emitted : t.emitted = s.emitted
  hostMem : t.hostMem = s.hostMem
  pin     : t.pinLinkAct = s.pinLinkAct
  stream  : t.stream = { s.stream with waitWrite := t.stream.waitWrite }

theorem State.LossKeeps.trans {s t u : State} (h : s.LossKeeps t) (k : t.LossKeeps u) : s.LossKeeps u where
  dev := k.dev.trans h.dev
  link := k.link.trans h.link
  framer := k.framer.trans h.framer
  sweep := k.sweep.trans h.sweep
  notif := k.notif.trans h.notif
  emitted := k.emitted.trans h.emitted
  hostMem := k.hostMem.trans h.hostMem
  pin := k.pin.trans h.pin
  stream := by rw [k.stream, h.stream]

/-- Every region is as `f` makes it, but for its staging count. -/
def State.RegionsBy (s : State) (f : RegionEntry → RegionEntry) (t : State) : Prop :=
  ∀ r, t.region r = { f (s.region r) with stagingCount := (t.region r).stagingCount }

/-- The completions that a WRITE waiting for room has in a loss: one, where the part is RUNNING (R63, R126). -/
def State.lossWaiting (s : State) : List Completion :=
  if s.stream.waitWrite = true ∧ s.dev.state = .running then
    (s.cmd.queue.head?.bind fun i => s.completionOf i .okLocal .zero).toList
  else []

/-! ## Each of the last parts -/

theorem State.settleOwnership_keeps (s : State) : s.LossKeeps s.settleOwnership := by
  constructor <;> simp

theorem State.settleOwnership_regionsBy (s : State) : s.RegionsBy RegionEntry.lost s.settleOwnership := by
  intro r
  rw [State.settleOwnership_region]

theorem State.settleOwnership_lost {s : State} (h : s.Lost) : s.settleOwnership.Lost where
  silent := by simpa [State.streaming] using h.silent
  norequest r := by simpa [State.settleOwnership_region, RegionEntry.lost_eq] using h.norequest r

theorem State.wroteLocally_keeps (s : State) (i : Fin 32) (rest : List (Fin 32)) (e : OctEntry) (r : Fin 64)
    (offset : Nat) (source : WriteSource) : s.LossKeeps (s.wroteLocally i rest e r offset source) := by
  unfold State.wroteLocally
  rw [← State.writeTakesEffect_eq]
  constructor <;> simp [State.headDone, State.withCompletion]
  simp [State.writeTakesEffect]

theorem State.wroteLocally_region (s : State) (i : Fin 32) (rest : List (Fin 32)) (e : OctEntry) (r : Fin 64)
    (offset : Nat) (source : WriteSource) (q : Fin 64) :
    (s.wroteLocally i rest e r offset source).region q =
      if q = r then { s.region r with stagingCount := (s.region r).stagingCount - 1 } else s.region q := by
  rw [State.wroteLocally, State.headDone_region, State.region_unstaged]
  rfl

theorem State.freeStaging_posts (s : State) (slot : Option (Fin 8)) : s.Posts (s.freeStaging slot) [] := by
  cases slot with
  | none => exact (State.Settles.of_eq rfl rfl).toPosts
  | some k => exact ⟨by simp [State.freeStaging, State.offerResource], rfl, rfl, fun j => by
      simp [State.entry, State.freeStaging, State.offerResource]⟩

/-- A change outside the Ring Manager and the Command Engine, or of the Execution Queue, requests no completion. -/
theorem State.Posts.of_frame {s t u : State} {cs : List Completion} (h : s.Posts t cs) (hr : u.rings = t.rings)
    (hb : u.cmd.buffers = t.cmd.buffers) (hc : u.cmd.statsCopy = t.cmd.statsCopy) (ho : u.cmd.oct = t.cmd.oct) :
    s.Posts u cs where
  rings := by rw [hr]; exact h.rings
  buffers := hb.trans h.buffers
  copy := hc.trans h.copy
  entry j := by
    have hj : u.entry j = t.entry j := by simp only [State.entry, ho]
    rw [hj, h.entry]

theorem State.unstaged_posts (s : State) (r : Fin 64) (e : OctEntry) : s.Posts (s.unstaged r e) [] := by
  have hregion : s.Posts (s.withRegion r { s.region r with stagingCount := (s.region r).stagingCount - 1 }) [] :=
    State.Settles.toPosts (.of_eq rfl rfl)
  exact (hregion.trans (State.freeStaging_posts _ e.staging)).of_frame rfl rfl rfl rfl

theorem State.wroteLocally_posts {s : State} {i : Fin 32} {rest : List (Fin 32)} {e : OctEntry} {r : Fin 64}
    {offset : Nat} {source : WriteSource} (h : s.HeadWrite i rest e r offset source) :
    s.Posts (s.wroteLocally i rest e r offset source)
      (s.completionOf i .okLocal (s.writeInfo r (s.writeWords e source).length)).toList := by
  have happly : s.Posts (s.apply r offset (s.writeWords e source) .localHost) [] :=
    State.Settles.toPosts (.of_eq rfl rfl)
  have hstart := happly.trans (State.unstaged_posts _ r e)
  have hentry : ((s.apply r offset (s.writeWords e source) .localHost).unstaged r e).cmd.oct[i] = some e := by
    have hi := hstart.entry i
    rw [List.append_nil, OctEntry.settledBy_nil, Option.map_id] at hi
    exact hi.trans h.entry
  have hdone := (State.requestCompletion_settles
    ((s.apply r offset (s.writeWords e source) .localHost).unstaged r e) i .okLocal
      (s.writeInfo r (s.writeWords e source).length)).toPosts
  rw [State.requestCompletion_eq hentry, hstart.completionOf] at hdone
  exact (hstart.trans hdone).of_frame rfl rfl rfl rfl

theorem State.presentHeadWrite_posts {s : State} (hl : s.Lost) {i : Fin 32} {rest : List (Fin 32)} {e : OctEntry}
    {r : Fin 64} {offset : Nat} {source : WriteSource} (h : s.HeadWrite i rest e r offset source)
    (hw : s.stream.waitWrite = true) :
    ∃ cs, s.Posts s.presentHeadWrite cs ∧ cs.map Completion.bare = s.lossWaiting := by
  rw [State.presentHeadWrite_lost hl h]
  unfold State.lossWaiting
  by_cases hrun : s.dev.state = .running
  · refine ⟨_, by rw [if_pos hrun]; exact State.wroteLocally_posts h, ?_⟩
    rw [if_pos ⟨hw, hrun⟩, h.queue, List.head?_cons, Option.bind_some, ← State.completionOf_bare]
    cases s.completionOf i .okLocal (s.writeInfo r (s.writeWords e source).length) <;> rfl
  · refine ⟨[], by rw [if_neg hrun]; exact State.Settles.toPosts (.of_eq rfl rfl), ?_⟩
    rw [if_neg fun hr => hrun hr.2]
    rfl

theorem State.presentHeadWrite_keeps {s : State} (hl : s.Lost) {i : Fin 32} {rest : List (Fin 32)} {e : OctEntry}
    {r : Fin 64} {offset : Nat} {source : WriteSource} (h : s.HeadWrite i rest e r offset source) :
    s.LossKeeps s.presentHeadWrite ∧ s.RegionsBy id s.presentHeadWrite ∧
      s.presentHeadWrite.stream.waitWrite = false := by
  rw [State.presentHeadWrite_lost hl h]
  split
  · refine ⟨State.wroteLocally_keeps .., fun q => ?_, ?_⟩
    · rw [State.wroteLocally_region]
      split
      next hq => subst hq; rfl
      next => rfl
    · rfl
  · exact ⟨by constructor <;> rfl, fun q => rfl, rfl⟩

/-! ## The end of the loss, whichever of its last parts is first -/

/-- The head is the same WRITE after completions have been requested. -/
theorem State.HeadWrite.of_settles {s t : State} {cs : List Completion} {i : Fin 32} {rest : List (Fin 32)}
    {e : OctEntry} {r : Fin 64} {offset : Nat} {source : WriteSource} (h : s.HeadWrite i rest e r offset source)
    (hs : s.Settles t cs) : t.HeadWrite i rest (OctEntry.settledBy cs i e) r offset source where
  queue := hs.queue.trans h.queue
  entry := by
    have hi : s.entry i = some e := h.entry
    have ht := hs.entry i
    rw [hi] at ht
    exact ht
  write := by
    rw [(OctEntry.settledBy_names cs i e).2.2.2]
    exact h.write

/-- What the last parts of a loss leave behind: the blocks, the regions, the waiting mark and the completions. -/
structure State.LossDone (s t : State) : Prop where
  keeps   : s.LossKeeps t
  regions : s.RegionsBy RegionEntry.lost t
  waits   : t.stream.waitWrite = false
  posts   : ∃ cs, s.Posts t cs ∧ (cs.map Completion.bare).Perm (s.lossHandOvers ++ s.lossWaiting)

/-- The last parts that a loss takes: the ownership part alone, or it and the waiting WRITE in either order (R42, R126). -/
theorem State.lossEnd_orders (s : State) (reason : LossReason) :
    (s.stream.waitWrite = false ∧ s.lossEnd reason = (s.lossBase reason).settleOwnership) ∨
    (s.stream.waitWrite = true ∧
      (s.lossEnd reason = (s.lossBase reason).settleOwnership.presentHeadWrite ∨
        s.lossEnd reason = (s.lossBase reason).presentHeadWrite.settleOwnership)) := by
  have hwait : (s.lossCore reason).stream.waitWrite = s.stream.waitWrite := by
    simp [State.lossCore, State.emptyStream_stream]
  unfold State.lossEnd
  cases hw : s.stream.waitWrite
  · left
    have hparts : (s.lossCore reason).lossParts = [State.settleOwnership] := by
      simp [State.lossParts, hwait, hw]
    rw [hparts]
    exact ⟨rfl, by simp only [freeOrder, List.length_cons, List.length_nil, freeOrderAux, List.foldl_cons, List.foldl_nil,
      State.taking]⟩
  · right
    have hparts : (s.lossCore reason).lossParts = [State.settleOwnership, State.presentHeadWrite] := by
      simp [State.lossParts, hwait, hw]
    rw [hparts]
    refine ⟨rfl, ?_⟩
    rcases List.perm_pair.1 (freeOrder_perm (s.lossCore reason).choices
      [State.settleOwnership, State.presentHeadWrite]) with ho | ho <;> rw [ho]
    · exact .inl (by simp only [List.foldl_cons, List.foldl_nil, State.taking])
    · exact .inr (by simp only [List.foldl_cons, List.foldl_nil, State.taking])

theorem State.lossBase_lost (s : State) (reason : LossReason) : (s.lossBase reason).Lost where
  silent := by
    obtain ⟨_, _, hlink, _⟩ := s.lossBase_blocks reason
    simp only [State.streaming, hlink, State.dropSession]
    split <;> rfl
  norequest r := by rw [State.lossBase_region]

theorem State.lossHandOvers_of_posts {s t : State} {cs : List Completion} (h : s.Posts t cs)
    (hr : ∀ r, (t.region r).state = (s.region r).state ∧ (t.region r).claimEntry = (s.region r).claimEntry ∧
      (t.region r).releaseEntry = (s.region r).releaseEntry) : t.lossHandOvers = s.lossHandOvers := by
  unfold State.lossHandOvers
  refine List.filterMap_congr fun r _ => ?_
  obtain ⟨hstate, hclaim, hrelease⟩ := hr r
  simp only [h.completionOf, hstate, hclaim, hrelease]

theorem State.lossWaiting_of_settles {s t : State} {cs : List Completion} (h : s.Settles t cs)
    (hd : t.dev.state = s.dev.state) (hs : t.stream.waitWrite = s.stream.waitWrite) :
    t.lossWaiting = s.lossWaiting := by
  simp only [State.lossWaiting, hd, hs, h.queue, h.completionOf]

theorem State.RegionsBy.same_commands {s t : State} (h : s.RegionsBy id t) (r : Fin 64) :
    (t.region r).state = (s.region r).state ∧ (t.region r).claimEntry = (s.region r).claimEntry ∧
      (t.region r).releaseEntry = (s.region r).releaseEntry := by
  rw [h r]
  exact ⟨rfl, rfl, rfl⟩

theorem RegionEntry.lost_sameButStaging {e b : RegionEntry} (h : e = { b with stagingCount := e.stagingCount }) :
    e.lost = { b.lost with stagingCount := e.lost.stagingCount } := by
  simp only [RegionEntry.lost_eq]
  generalize e.stagingCount = n at h
  subst h
  rfl

theorem State.RegionsBy.after_lost {s t u : State} (h : t.RegionsBy id u) (ht : ∀ r, t.region r = (s.region r).lost) :
    s.RegionsBy RegionEntry.lost u := by
  intro r
  rw [← ht r]
  exact h r

theorem State.RegionsBy.then_lost {s t u : State} (h : s.RegionsBy id t) (hu : ∀ r, u.region r = (t.region r).lost) :
    s.RegionsBy RegionEntry.lost u := by
  intro r
  rw [hu r]
  exact RegionEntry.lost_sameButStaging (h r)

/-- Either order of the last parts settles the same commands and leaves the same blocks and regions. -/
theorem State.lossEnd_done (s : State) (reason : LossReason)
    (hhead : s.stream.waitWrite = true → ∃ i rest e r offset source, s.HeadWrite i rest e r offset source) :
    (s.lossBase reason).LossDone (s.lossEnd reason) := by
  have hlost := s.lossBase_lost reason
  have hwait : (s.lossBase reason).stream.waitWrite = s.stream.waitWrite := by
    obtain ⟨_, _, _, _, _, hstream, _⟩ := s.lossBase_blocks reason
    rw [hstream]
  obtain ⟨cs, hcs, hperm⟩ := (s.lossBase reason).settleOwnership_settles
  rcases s.lossEnd_orders reason with ⟨hw, hend⟩ | ⟨hw, hend | hend⟩
  · rw [hend]
    refine ⟨State.settleOwnership_keeps _, State.settleOwnership_regionsBy _, ?_, cs, hcs.toPosts, ?_⟩
    · simp [hwait, hw]
    · have hnone : (s.lossBase reason).lossWaiting = [] := by simp [State.lossWaiting, hwait, hw]
      simpa [hnone] using hperm
  · obtain ⟨i, rest, e, r, offset, source, hh⟩ := hhead hw
    obtain ⟨fences, hbase, _⟩ := s.lossBase_settles reason
    have hh1 := (hh.of_settles hbase).of_settles hcs
    have hlost1 := State.settleOwnership_lost hlost
    obtain ⟨hkeeps, hregions, hwaits⟩ := State.presentHeadWrite_keeps hlost1 hh1
    obtain ⟨ds, hds, hbare⟩ := State.presentHeadWrite_posts hlost1 hh1 (by simp [hwait, hw])
    rw [hend]
    refine ⟨(State.settleOwnership_keeps _).trans hkeeps, hregions.after_lost (State.settleOwnership_region _), hwaits, _,
      hcs.toPosts.trans hds, ?_⟩
    rw [List.map_append, hbare, State.lossWaiting_of_settles hcs (by simp) (by simp)]
    exact hperm.append_right _
  · obtain ⟨i, rest, e, r, offset, source, hh⟩ := hhead hw
    obtain ⟨fences, hbase, _⟩ := s.lossBase_settles reason
    have hh1 := hh.of_settles hbase
    obtain ⟨hkeeps, hregions, hwaits⟩ := State.presentHeadWrite_keeps hlost hh1
    obtain ⟨ds, hds, hbare⟩ := State.presentHeadWrite_posts hlost hh1 (by simp [hwait, hw])
    obtain ⟨cs, hcs, hperm⟩ := (s.lossBase reason).presentHeadWrite.settleOwnership_settles
    rw [hend]
    refine ⟨hkeeps.trans (State.settleOwnership_keeps _), hregions.then_lost (State.settleOwnership_region _),
      by simpa using hwaits, _, hds.trans hcs.toPosts, ?_⟩
    rw [List.map_append, hbare]
    rw [State.lossHandOvers_of_posts hds hregions.same_commands] at hperm
    exact (List.perm_append_comm).trans (hperm.append_right _)

end Sys2Proof.Machine
end

section
/-! A link loss as a whole: its blocks, its completions, the link and the framer. -/

namespace Sys2Proof.Machine

/-! ## The loss as a whole -/

theorem LossReason.endsOff_iff (reason : LossReason) : reason.endsOff = true ↔ reason = .host ∨ reason = .stop := by
  cases reason <;> simp [LossReason.endsOff]

/-- The event and the entry to SEEKING leave these blocks as the last parts of the loss did. -/
theorem State.linkLoss_blocks (s : State) (reason : LossReason) :
    (s.linkLoss reason).dev = (s.lossEnd reason).dev ∧ (s.linkLoss reason).regions = (s.lossEnd reason).regions ∧
    (s.linkLoss reason).rings = (s.lossEnd reason).rings ∧ (s.linkLoss reason).cmd = (s.lossEnd reason).cmd ∧
    (s.linkLoss reason).stream = (s.lossEnd reason).stream ∧ (s.linkLoss reason).sweep = (s.lossEnd reason).sweep ∧
    (s.linkLoss reason).mirror = (s.lossEnd reason).mirror ∧ (s.linkLoss reason).watch = (s.lossEnd reason).watch ∧
    (s.linkLoss reason).emitted = (s.lossEnd reason).emitted ∧
    (s.linkLoss reason).hostMem = (s.lossEnd reason).hostMem ∧
    (s.linkLoss reason).pinLinkAct = (s.lossEnd reason).pinLinkAct := by
  rw [State.linkLoss_eq]
  split <;> simp

theorem State.linkLoss_region (s : State) (reason : LossReason) (r : Fin 64) :
    (s.linkLoss reason).region r = (s.lossEnd reason).region r := by
  obtain ⟨_, hregions, _⟩ := s.linkLoss_blocks reason
  simp only [State.region, hregions]

/-- All completions that a loss requests, in their order: those of WRITE commands, then those of FENCE commands, then
those of the last parts (R42, R63; log entry 14). -/
theorem State.linkLoss_posts (s : State) (reason : LossReason)
    (hhead : s.stream.waitWrite = true → ∃ i rest e r offset source, s.HeadWrite i rest e r offset source) :
    ∃ fences cs, s.Posts (s.linkLoss reason) (s.writesOf s.stream.list .unconfirmed ++ fences ++ cs) ∧
      fences.Perm s.lossFences ∧ (cs.map Completion.bare).Perm (s.lossHandOvers ++ s.lossWaiting) := by
  obtain ⟨fences, hbase, hfences⟩ := s.lossBase_settles reason
  obtain ⟨cs, hcs, hperm⟩ := (s.lossEnd_done reason hhead).posts
  obtain ⟨hdev, _, _, _, _, hstream, _⟩ := s.lossBase_blocks reason
  rw [State.lossHandOvers_of_posts hbase.toPosts fun r => by rw [State.lossBase_region]; exact ⟨rfl, rfl, rfl⟩,
    State.lossWaiting_of_settles hbase (by rw [hdev]; rfl) (by rw [hstream])] at hperm
  obtain ⟨_, _, hrings, hcmd, _⟩ := s.linkLoss_blocks reason
  exact ⟨fences, cs, (hbase.toPosts.trans hcs).of_frame hrings (by rw [hcmd]) (by rw [hcmd]) (by rw [hcmd]),
    hfences, hperm⟩

theorem State.linkLoss_link (s : State) (reason : LossReason)
    (hhead : s.stream.waitWrite = true → ∃ i rest e r offset source, s.HeadWrite i rest e r offset source) :
    (s.linkLoss reason).link = { (s.dropSession reason).link with
      helloTimer := if reason.endsOff then none else some s.params.helloInterval } := by
  have hdone := (s.lossEnd_done reason hhead).keeps
  obtain ⟨hdev, _, hlink, _⟩ := s.lossBase_blocks reason
  have hsetup : (s.lossEnd reason).dev.setup = s.dev.setup := by rw [hdone.dev, hdev]; rfl
  have hend : (s.lossEnd reason).link = (s.dropSession reason).link := hdone.link.trans hlink
  rw [State.linkLoss_eq]
  cases h : reason.endsOff
  · simp [State.enterSeeking, State.restartHello, State.handSeekingHello, State.handHello, State.params, hsetup, hend,
      State.dropSession, h]
  · simp [hend, State.dropSession, h]

theorem State.linkLoss_framer (s : State) (reason : LossReason)
    (hhead : s.stream.waitWrite = true → ∃ i rest e r offset source, s.HeadWrite i rest e r offset source) :
    (s.linkLoss reason).framer = { (s.dropSession reason).framer with
      hello := if reason.endsOff then none else
        some { nodeId := s.params.nodeId, heard := none, joined := false,
               content := (s.linkLoss reason).presentContent } } := by
  have hdone := (s.lossEnd_done reason hhead).keeps
  obtain ⟨hdev, _, _, hframer, _⟩ := s.lossBase_blocks reason
  have hsetup : (s.lossEnd reason).dev.setup = s.dev.setup := by rw [hdone.dev, hdev]; rfl
  have hend : (s.lossEnd reason).framer = (s.dropSession reason).framer := hdone.framer.trans hframer
  rw [State.linkLoss_eq]
  cases h : reason.endsOff
  · simp [State.enterSeeking, State.restartHello, State.handSeekingHello, State.handHello, State.params, hsetup, hend]
    rfl
  · simp [hend, State.dropSession, h]

end Sys2Proof.Machine
end

section
/-! What a link loss leaves of the mirror, the watches, the Execution Queue and the staging slots. -/

namespace Sys2Proof.Machine

/-! ## Mirror, watches, queue and slots in a loss -/

/-- What no part of a loss but a committing WRITE touches. -/
structure State.LossStill (s t : State) : Prop where
  mirror  : t.mirror = s.mirror
  watch   : t.watch = s.watch
  queue   : t.cmd.queue = s.cmd.queue
  staging : t.cmd.staging = s.cmd.staging
  subRing : ∀ ring, t.subRing ring = s.subRing ring
  count   : ∀ r, (t.region r).stagingCount = (s.region r).stagingCount

theorem State.LossStill.trans {s t u : State} (h : s.LossStill t) (k : t.LossStill u) : s.LossStill u where
  mirror := k.mirror.trans h.mirror
  watch := k.watch.trans h.watch
  queue := k.queue.trans h.queue
  staging := k.staging.trans h.staging
  subRing ring := (k.subRing ring).trans (h.subRing ring)
  count r := (k.count r).trans (h.count r)

theorem State.Settles.subRing {s t : State} {cs : List Completion} (h : s.Settles t cs) (ring : Ring) :
    t.subRing ring = s.subRing ring := by
  cases ring
  · exact h.urgent
  · exact h.normal

theorem State.lossBase_still (s : State) (reason : LossReason) : s.LossStill (s.lossBase reason) := by
  obtain ⟨_, hbase, _⟩ := s.lossBase_settles reason
  obtain ⟨_, _, _, _, _, _, hmirror, hwatch, _⟩ := s.lossBase_blocks reason
  exact ⟨hmirror, hwatch, hbase.queue, hbase.staging, hbase.subRing, fun r => by rw [State.lossBase_region]⟩

theorem State.settleOwnership_still (s : State) : s.LossStill s.settleOwnership := by
  obtain ⟨_, h, _⟩ := s.settleOwnership_settles
  exact ⟨by simp, by simp, h.queue, h.staging, h.subRing, fun r => by
    rw [State.settleOwnership_region, RegionEntry.lost_eq]⟩

/-- Outside RUNNING a WRITE told to present in a loss at most ceases to wait (R126). -/
theorem State.presentHeadWrite_still {s : State} (hl : s.Lost) (hrun : s.dev.state ≠ .running) :
    s.LossStill s.presentHeadWrite := by
  have hsame : s.LossStill s := ⟨rfl, rfl, rfl, rfl, fun _ => rfl, fun _ => rfl⟩
  unfold State.presentHeadWrite
  split
  · exact hsame
  split
  · exact hsame
  split
  · simp only [State.presentWrite, hl.silent, if_true, hrun, if_false]
    exact ⟨rfl, rfl, rfl, rfl, fun _ => rfl, fun _ => rfl⟩
  · exact hsame

theorem State.lossEnd_still (s : State) (reason : LossReason)
    (h : s.stream.waitWrite = false ∨ s.dev.state ≠ .running) : s.LossStill (s.lossEnd reason) := by
  have hbase := s.lossBase_still reason
  have hown := (s.lossBase reason).settleOwnership_still
  obtain ⟨hdev, _⟩ := s.lossBase_blocks reason
  have hlost := s.lossBase_lost reason
  rcases s.lossEnd_orders reason with ⟨_, hend⟩ | ⟨hw, hend⟩
  · rw [hend]
    exact hbase.trans hown
  · have hrun : (s.lossBase reason).dev.state ≠ .running := by
      rw [hdev]
      exact h.resolve_left (by simp [hw])
    rcases hend with hend | hend <;> rw [hend]
    · exact (hbase.trans hown).trans (State.presentHeadWrite_still (State.settleOwnership_lost hlost) (by simpa using hrun))
    · exact (hbase.trans (State.presentHeadWrite_still hlost hrun)).trans (State.settleOwnership_still _)

theorem State.linkLoss_still (s : State) (reason : LossReason)
    (h : s.stream.waitWrite = false ∨ s.dev.state ≠ .running) : s.LossStill (s.linkLoss reason) := by
  obtain ⟨_, _, hrings, hcmd, _, _, hmirror, hwatch, _⟩ := s.linkLoss_blocks reason
  have hend := s.lossEnd_still reason h
  refine ⟨by rw [hmirror, hend.mirror], by rw [hwatch, hend.watch], by rw [hcmd, hend.queue],
    by rw [hcmd, hend.staging], fun ring => ?_, fun r => by rw [State.linkLoss_region, hend.count]⟩
  rw [← hend.subRing ring]
  cases ring <;> simp only [State.subRing, hrings]

/-! ## The waiting WRITE that commits in a loss (R63, R126) -/

/-- A waiting WRITE has committed its words and completed OK_LOCAL. -/
structure State.Wrote (s t : State) (i : Fin 32) (rest : List (Fin 32)) (e : OctEntry) (r : Fin 64) (offset : Nat)
    (words : List Word) : Prop where
  mirror  : t.mirror = s.mirror.writeRange (64 * r.val + offset) words
  watch   : t.watch = { s.watch with
    reports := s.watch.reports ++ [{
      region := r, first := offset, source := .localHost,
      before := s.mirror.values (64 * r.val + offset) words.length, after := words }] }
  queue   : t.cmd.queue = rest
  entry   : t.entry i = some e.finished
  posted  : { ring := e.ring, tag := e.tag, status := .okLocal, info := s.writeInfo r words.length, entry := some i } ∈
    t.rings.posting
  staging : ∀ j : Fin 8, t.cmd.staging[j] = if e.staging = some j then none else s.cmd.staging[j]
  subRing : ∀ ring, t.subRing ring =
    if e.staging.isSome = true ∧ (s.subRing ring).waiting = some .stagingSlot then
      { s.subRing ring with waiting := none } else s.subRing ring
  count   : ∀ q, (t.region q).stagingCount =
    if q = r then (s.region r).stagingCount - 1 else (s.region q).stagingCount

theorem State.wroteLocally_wrote {s : State} {i : Fin 32} {rest : List (Fin 32)} {e : OctEntry} {r : Fin 64}
    {offset : Nat} {source : WriteSource} (h : s.HeadWrite i rest e r offset source) :
    s.Wrote (s.wroteLocally i rest e r offset source) i rest e r offset (s.writeWords e source) := by
  have hposts := State.wroteLocally_posts h
  have hi : s.entry i = some e := h.entry
  have hc : s.completionOf i .okLocal (s.writeInfo r (s.writeWords e source).length) =
      some { ring := e.ring, tag := e.tag, status := .okLocal,
             info := s.writeInfo r (s.writeWords e source).length, entry := some i } := by
    simp [State.completionOf, hi]
  rw [hc] at hposts
  have haddr : wordAddress r offset = 64 * r.val + offset := by rw [wordAddress, Nat.mul_comm]
  refine ⟨?_, ?_, rfl, ?_, ?_, fun j => ?_, fun ring => ?_, fun q => ?_⟩
  · simp [State.wroteLocally, State.headDone, State.withCompletion, ← State.writeTakesEffect_eq, State.apply, haddr]
  · simp [State.wroteLocally, State.headDone, State.withCompletion, ← State.writeTakesEffect_eq, State.apply, haddr]
  · rw [hposts.entry, hi]
    simp [OctEntry.settledBy]
  · rw [hposts.rings]
    simp
  · exact State.freeStaging_staging _ e.staging j
  · exact State.freeStaging_subRing _ e.staging ring
  · rw [State.wroteLocally_region]
    split <;> rfl

/-- The WRITE commits as it would have where nothing it reads has changed before. -/
theorem State.Wrote.of_still {s u t : State} {i : Fin 32} {rest : List (Fin 32)} {e : OctEntry} {r : Fin 64}
    {offset : Nat} {words : List Word} (h : s.LossStill u)
    (hr : (u.region r).generation = (s.region r).generation ∧ (u.region r).state = (s.region r).state)
    (k : u.Wrote t i rest e r offset words) : s.Wrote t i rest e r offset words where
  mirror := by rw [k.mirror, h.mirror]
  watch := by rw [k.watch, h.watch, h.mirror]
  queue := k.queue
  entry := k.entry
  posted := by
    have hinfo : u.writeInfo r words.length = s.writeInfo r words.length := by simp [State.writeInfo, hr]
    rw [← hinfo]
    exact k.posted
  staging j := by rw [k.staging, h.staging]
  subRing ring := by rw [k.subRing, h.subRing]
  count q := by rw [k.count, h.count, h.count]

/-- What the WRITE has left stands after parts of the loss that come later. -/
theorem State.Wrote.still {s t u : State} {i : Fin 32} {rest : List (Fin 32)} {e : OctEntry} {r : Fin 64}
    {offset : Nat} {words : List Word} {cs : List Completion} (h : s.Wrote t i rest e r offset words)
    (k : t.LossStill u) (hp : t.Posts u cs) : s.Wrote u i rest e r offset words where
  mirror := k.mirror.trans h.mirror
  watch := k.watch.trans h.watch
  queue := k.queue.trans h.queue
  entry := by
    rw [hp.entry, h.entry]
    simp only [Option.map_some, OctEntry.settledBy]
    split <;> rfl
  posted := by
    rw [hp.rings]
    exact List.mem_append_left _ h.posted
  staging j := by rw [k.staging, h.staging]
  subRing ring := (k.subRing ring).trans (h.subRing ring)
  count q := (k.count q).trans (h.count q)

theorem State.writeWords_of_still {s u : State} (h : s.LossStill u) (e : OctEntry) (source : WriteSource) :
    u.writeWords e source = s.writeWords e source := by
  unfold State.writeWords
  rw [h.staging]

end Sys2Proof.Machine
end

section
/-! A link loss settles every waiting command (R42, R63, R126). -/

namespace Sys2Proof.Machine

theorem State.completionOf_entry {s : State} {i : Fin 32} {st : Status} {info : Info} {c : Completion}
    (h : s.completionOf i st info = some c) : c.entry = some i := by
  obtain ⟨_, _, rfl⟩ := Option.map_eq_some_iff.1 h
  rfl

/-- A WRITE completes at the removal of a frame that its entry owns. -/
theorem State.writeOf_entry {s : State} {st : Status} {f : TxEntry} {c : Completion} (h : s.writeOf st f = some c) :
    f.owner = c.entry := by
  unfold State.writeOf at h
  split at h
  next i _ ho =>
    obtain ⟨e, _, h⟩ := Option.bind_eq_some_iff.1 h
    rw [ho, State.completionOf_entry h]
  · simp at h

theorem State.lossFences_entry {s : State} {c : Completion} (h : c ∈ s.lossFences) :
    ∃ i e, s.entry i = some e ∧ e.command = .fence ∧ c.entry = some i := by
  obtain ⟨i, _, h⟩ := List.mem_filterMap.1 h
  obtain ⟨e, he, h⟩ := Option.bind_eq_some_iff.1 h
  split at h
  next hf => exact ⟨i, e, he, hf.1, State.completionOf_entry h⟩
  · simp at h

theorem State.lossHandOvers_entry {s : State} {c : Completion} (h : c ∈ s.lossHandOvers) :
    ∃ q, (s.region q).claimEntry = c.entry ∨ (s.region q).releaseEntry = c.entry := by
  obtain ⟨q, _, h⟩ := List.mem_filterMap.1 h
  refine ⟨q, ?_⟩
  split at h
  · obtain ⟨i, hi, h⟩ := Option.bind_eq_some_iff.1 h
    exact .inl (by rw [hi, State.completionOf_entry h])
  · obtain ⟨i, hi, h⟩ := Option.bind_eq_some_iff.1 h
    exact .inr (by rw [hi, State.completionOf_entry h])
  · simp at h

/-- The head is the very same WRITE where no completion names its entry. -/
theorem State.HeadWrite.same {s t : State} {cs : List Completion} {i : Fin 32} {rest : List (Fin 32)} {e : OctEntry}
    {r : Fin 64} {offset : Nat} {source : WriteSource} (h : s.HeadWrite i rest e r offset source)
    (hs : s.Settles t cs) (hno : ¬ ∃ c ∈ cs, c.entry = some i) : t.HeadWrite i rest e r offset source := by
  have ht := h.of_settles hs
  rwa [OctEntry.settledBy_of_not_mem hno] at ht

/-- In RUNNING the loss lets the waiting WRITE commit, where no other part of it names the WRITE's entry (R63, R126). -/
theorem State.lossEnd_wrote {s : State} (reason : LossReason) {i : Fin 32} {rest : List (Fin 32)} {e : OctEntry}
    {r : Fin 64} {offset : Nat} {source : WriteSource} (hw : s.stream.waitWrite = true) (hrun : s.dev.state = .running)
    (hh : s.HeadWrite i rest e r offset source) (hstate : (s.region r).state = .here)
    (howner : ∀ f ∈ s.stream.list, f.owner ≠ some i)
    (hclaims : ∀ q, (s.region q).claimEntry ≠ some i ∧ (s.region q).releaseEntry ≠ some i) :
    s.Wrote (s.lossEnd reason) i rest e r offset (s.writeWords e source) := by
  obtain ⟨fences, hbase, hfences⟩ := s.lossBase_settles reason
  obtain ⟨hdev, _⟩ := s.lossBase_blocks reason
  have hstill := s.lossBase_still reason
  have hlost := s.lossBase_lost reason
  have hregion := s.lossBase_region reason r
  have hrun' : (s.lossBase reason).dev.state = .running := by rw [hdev]; exact hrun
  have hh1 : (s.lossBase reason).HeadWrite i rest e r offset source := by
    refine hh.same hbase ?_
    rintro ⟨c, hc, hci⟩
    rcases List.mem_append.1 hc with hc | hc
    · obtain ⟨f, hf, hfc⟩ := List.mem_filterMap.1 (State.writesOf_eq s _ _ ▸ hc)
      exact howner f hf ((State.writeOf_entry hfc).trans hci)
    · obtain ⟨k, ek, hk, hfence, hck⟩ := State.lossFences_entry (hfences.mem_iff.1 hc)
      obtain ⟨_, _, hwrite⟩ := hh.write
      have hki : k = i := Option.some.inj (hck.symm.trans hci)
      have hsame : ek = e := Option.some.inj (hk.symm.trans (hki ▸ hh.entry))
      rw [hsame, hwrite] at hfence
      cases hfence
  rcases s.lossEnd_orders reason with ⟨hno, _⟩ | ⟨_, hend | hend⟩
  · rw [hw] at hno; cases hno
  · obtain ⟨cs, hcs, hperm⟩ := (s.lossBase reason).settleOwnership_settles
    have hown := (s.lossBase reason).settleOwnership_still
    have hh2 : (s.lossBase reason).settleOwnership.HeadWrite i rest e r offset source := by
      refine hh1.same hcs ?_
      rintro ⟨c, hc, hci⟩
      obtain ⟨q, hq⟩ := State.lossHandOvers_entry (hperm.mem_iff.1 (List.mem_map_of_mem hc))
      have hbare : c.bare.entry = some i := hci
      rw [State.lossBase_region, hbare] at hq
      exact hq.elim (hclaims q).1 (hclaims q).2
    have hregion2 := State.settleOwnership_region (s.lossBase reason) r
    rw [hend, State.presentHeadWrite_lost (State.settleOwnership_lost hlost) hh2, if_pos (by simpa using hrun'),
      ← State.writeWords_of_still (hstill.trans hown)]
    refine (State.wroteLocally_wrote hh2).of_still (hstill.trans hown) ?_
    rw [hregion2, hregion, RegionEntry.lost_eq]
    simp [hstate]
  · obtain ⟨cs, hcs, _⟩ := (s.lossBase reason).presentHeadWrite.settleOwnership_settles
    have hown := (s.lossBase reason).presentHeadWrite.settleOwnership_still
    have hwrote := (State.wroteLocally_wrote hh1).of_still hstill (by rw [hregion]; exact ⟨rfl, rfl⟩)
    have hpresent := State.presentHeadWrite_lost hlost hh1
    rw [if_pos hrun'] at hpresent
    rw [State.writeWords_of_still hstill, ← hpresent] at hwrote
    rw [hend]
    exact hwrote.still hown hcs.toPosts

theorem State.linkLoss_wrote {s : State} (reason : LossReason) {i : Fin 32} {rest : List (Fin 32)} {e : OctEntry}
    {r : Fin 64} {offset : Nat} {words : List Word} (h : s.Wrote (s.lossEnd reason) i rest e r offset words) :
    s.Wrote (s.linkLoss reason) i rest e r offset words := by
  obtain ⟨_, _, hrings, hcmd, _, _, hmirror, hwatch, _⟩ := s.linkLoss_blocks reason
  refine ⟨by rw [hmirror, h.mirror], by rw [hwatch, h.watch], by rw [hcmd, h.queue], ?_, by rw [hrings]; exact h.posted,
    fun j => by rw [hcmd, h.staging], fun ring => ?_, fun q => by rw [State.linkLoss_region, h.count]⟩
  · have hentry := h.entry
    simp only [State.entry] at hentry ⊢
    rw [hcmd, hentry]
  · rw [← h.subRing ring]
    cases ring <;> simp only [State.subRing, hrings]

/-- A completion that only its information words tell from `c` names the same entry. -/
theorem exists_bare_entry (l : List Completion) (j : Fin 32) :
    (∃ c ∈ l.map Completion.bare, c.entry = some j) ↔ ∃ c ∈ l, c.entry = some j := by
  simp [Completion.bare]

theorem State.lossFences_bare (s : State) :
    s.lossFences.map Completion.bare = (List.finRange 32).filterMap fun i => (s.entry i).bind fun e =>
      if e.command = .fence ∧ e.phase = .awaitingEvent ∧
          (s.writesOf s.stream.list .unconfirmed).all fun c => c.entry ≠ some i then
        s.completionOf i .linkLost .zero
      else none := by
  unfold State.lossFences
  rw [List.map_filterMap]
  refine List.filterMap_congr fun i _ => ?_
  cases s.entry i with
  | none => rfl
  | some e =>
    simp only [Option.bind_some]
    split
    · exact s.completionOf_bare i .linkLost _
    · rfl

theorem State.lossHandOvers_bare (s : State) : s.lossHandOvers.map Completion.bare = s.lossHandOvers := by
  unfold State.lossHandOvers
  rw [List.map_filterMap]
  refine List.filterMap_congr fun r _ => ?_
  cases (s.region r).state
  case claiming => cases (s.region r).claimEntry <;> simp
  case granting => cases (s.region r).releaseEntry <;> simp
  all_goals rfl

theorem State.lossWaiting_bare (s : State) : s.lossWaiting.map Completion.bare = s.lossWaiting := by
  unfold State.lossWaiting
  split
  · cases s.cmd.queue.head? with
    | none => rfl
    | some i =>
      rw [Option.bind_some, ← s.completionOf_bare i .okLocal .zero]
      cases s.completionOf i .okLocal .zero <;> rfl
  · rfl

/-- Completions that are the same but for information words finish the same entries. -/
theorem OctEntry.settledBy_of_bare {cs ds : List Completion} (h : (cs.map Completion.bare).Perm (ds.map Completion.bare))
    (j : Fin 32) (e : OctEntry) : OctEntry.settledBy cs j e = OctEntry.settledBy ds j e := by
  have hiff : (∃ c ∈ cs, c.entry = some j) ↔ ∃ c ∈ ds, c.entry = some j := by
    rw [← exists_bare_entry cs, ← exists_bare_entry ds]
    simp only [h.mem_iff]
  by_cases hc : ∃ c ∈ cs, c.entry = some j
  · rw [OctEntry.settledBy_of_mem hc, OctEntry.settledBy_of_mem (hiff.1 hc)]
  · rw [OctEntry.settledBy_of_not_mem hc, OctEntry.settledBy_of_not_mem fun hd => hc (hiff.2 hd)]

/-- A completion found but for its information words is there with some. -/
theorem exists_info_of_mem_bare {l : List Completion} {c : Completion} (h : c ∈ l.map Completion.bare) :
    ∃ info, { c with info := info } ∈ l := by
  obtain ⟨d, hd, rfl⟩ := List.mem_map.1 h
  exact ⟨d.info, hd⟩

theorem State.completionOf_of_entry {s : State} {i : Fin 32} {e : OctEntry} (h : s.entry i = some e) (st : Status)
    (info : Info) : s.completionOf i st info =
      some { ring := e.ring, tag := e.tag, status := st, info := info, entry := some i } := by
  simp [State.completionOf, h]

theorem State.mem_lossHandOvers_claim {s : State} {r : Fin 64} {i : Fin 32} {e : OctEntry}
    (hs : (s.region r).state = .claiming) (hc : (s.region r).claimEntry = some i) (he : s.entry i = some e) :
    { ring := e.ring, tag := e.tag, status := .linkLost, info := .zero, entry := some i } ∈ s.lossHandOvers := by
  refine List.mem_filterMap.2 ⟨r, List.mem_finRange r, ?_⟩
  simp only [hs, hc, Option.bind_some]
  exact State.completionOf_of_entry he _ _

theorem State.mem_lossHandOvers_release {s : State} {r : Fin 64} {i : Fin 32} {e : OctEntry}
    (hs : (s.region r).state = .granting) (hc : (s.region r).releaseEntry = some i) (he : s.entry i = some e) :
    { ring := e.ring, tag := e.tag, status := .unconfirmed, info := .zero, entry := some i } ∈ s.lossHandOvers := by
  refine List.mem_filterMap.2 ⟨r, List.mem_finRange r, ?_⟩
  simp only [hs, hc, Option.bind_some]
  exact State.completionOf_of_entry he _ _

theorem State.mem_writesOf {s : State} {l : List TxEntry} {f : TxEntry} {i : Fin 32} {e : OctEntry} {st : Status}
    {region offset : Byte} {words : List Word} {refresh lastOfRegion : Bool} (hf : f ∈ l)
    (hc : f.content = .update region offset words true refresh lastOfRegion) (ho : f.owner = some i)
    (he : s.entry i = some e) :
    { ring := e.ring, tag := e.tag, status := st, info := e.info, entry := some i } ∈ s.writesOf l st := by
  rw [State.writesOf_eq]
  refine List.mem_filterMap.2 ⟨f, hf, ?_⟩
  simp only [State.writeOf, hc, ho, he, Option.bind_some]
  exact State.completionOf_of_entry he _ _

/-- A waiting FENCE that owns no frame completes with its mark. -/
theorem State.mem_lossFences {s : State} {i : Fin 32} {e : OctEntry} (he : s.entry i = some e)
    (hc : e.command = .fence) (hp : e.phase = .awaitingEvent) (ho : ∀ f ∈ s.stream.list, f.owner ≠ some i) :
    { ring := e.ring, tag := e.tag, status := .linkLost, info := fenceInfo e.mark, entry := some i } ∈ s.lossFences := by
  refine List.mem_filterMap.2 ⟨i, List.mem_finRange i, ?_⟩
  have hwrites : (s.writesOf s.stream.list .unconfirmed).all (fun c => c.entry ≠ some i) = true := by
    simp only [List.all_eq_true, decide_eq_true_eq]
    intro c hmem hci
    obtain ⟨f, hf, hfc⟩ := List.mem_filterMap.1 (State.writesOf_eq s _ _ ▸ hmem)
    exact ho f hf ((State.writeOf_entry hfc).trans hci)
  simp only [he, Option.bind_some]
  rw [if_pos ⟨hc, hp, hwrites⟩]
  exact State.completionOf_of_entry he _ _

/-- The blocks that a loss leaves the same whatever commands wait. -/
theorem State.linkLoss_settled (s : State) (reason : LossReason)
    (hhead : s.stream.waitWrite = true → ∃ i rest e r offset source, s.HeadWrite i rest e r offset source) :
    (s.linkLoss reason).dev = (s.counted .linkLosses).dev ∧
    (s.linkLoss reason).notif = { s.notif with queue := s.notif.queue ++ [.event (.linkLost reason)] } ∧
    (s.linkLoss reason).sweep = { timer := none, number := s.sweep.number, cursor := none, offered := none,
                                  pending := false, overrun := false } ∧
    (s.linkLoss reason).stream = { s.stream with
      list := [], timer := none, retryCount := 0, ackDue := false, sessionAcked := false, waitWrite := false } ∧
    (s.linkLoss reason).emitted = s.emitted ∧ (s.linkLoss reason).hostMem = s.hostMem ∧
    (s.linkLoss reason).pinLinkAct = s.pinLinkAct := by
  obtain ⟨hkeeps, _, hwaits, _⟩ := s.lossEnd_done reason hhead
  obtain ⟨hdev, hnotif, _, _, hsweep, hstream, _, _, hemitted, hhost, hpin⟩ := s.lossBase_blocks reason
  obtain ⟨bdev, _, _, _, bstream, bsweep, _, _, bemitted, bhost, bpin⟩ := s.linkLoss_blocks reason
  refine ⟨by rw [bdev, hkeeps.dev, hdev], ?_, by rw [bsweep, hkeeps.sweep, hsweep],
    by rw [bstream, hkeeps.stream, hwaits, hstream], by rw [bemitted, hkeeps.emitted, hemitted],
    by rw [bhost, hkeeps.hostMem, hhost], by rw [bpin, hkeeps.pin, hpin]⟩
  have hend : (s.lossEnd reason).notif = s.notif := hkeeps.notif.trans hnotif
  rw [State.linkLoss_eq, ← hend]
  split <;> rfl

theorem State.linkLoss_regions (s : State) (reason : LossReason)
    (hhead : s.stream.waitWrite = true → ∃ i rest e r offset source, s.HeadWrite i rest e r offset source)
    (r : Fin 64) : (s.linkLoss reason).region r = { (s.region r).lost with
      pending := none, stagingCount := ((s.linkLoss reason).region r).stagingCount, lastSweep := none, age := 0 } := by
  have h := (s.lossEnd_done reason hhead).regions r
  rw [State.lossBase_region, ← State.linkLoss_region] at h
  refine h.trans ?_
  simp only [RegionEntry.lost_eq]

/-- Settles O28: the blocks, the regions and the completions of a loss, and the two orders of its last parts. -/
theorem linkLossSettlesAll : Obligations.LinkLossSettlesAll := by
  unfold Obligations.LinkLossSettlesAll
  refine ⟨?_, fun s reason h => ?_, ?_⟩
  · intro s reason hcmd t ends writes fences handOvers waiting
    have hhead (hw : s.stream.waitWrite = true) :
        ∃ i rest e r offset source, s.HeadWrite i rest e r offset source := by
      obtain ⟨i, rest, e, r, offset, count, source, waitRemote, hq, he, hc⟩ := hcmd hw
      exact ⟨i, rest, e, r, offset, source, hq, he, count, waitRemote, hc⟩
    obtain ⟨fs, cs, hposts, hfs, hcs⟩ := s.linkLoss_posts reason hhead
    obtain ⟨hdev, hnotif, hsweep, hstream, hemitted, hhost, hpin⟩ := s.linkLoss_settled reason hhead
    have hbare : ((writes ++ fs ++ cs).map Completion.bare).Perm
        (writes.map Completion.bare ++ fences ++ handOvers ++ waiting) := by
      have hf : (fs.map Completion.bare).Perm fences := (hfs.map _).trans (by rw [State.lossFences_bare])
      rw [List.map_append, List.map_append, List.append_assoc _ handOvers]
      exact ((hf.append_left _).append hcs)
    have hposted {c : Completion} (hc : c ∈ writes ++ fs ++ cs) : c ∈ t.rings.posting := by
      rw [hposts.rings]
      exact List.mem_append_right _ hc
    have hhandOver {c : Completion} (hc : c ∈ handOvers) : ∃ info, { c with info := info } ∈ t.rings.posting := by
      have hmem : c ∈ (writes ++ fs ++ cs).map Completion.bare := by
        rw [hbare.mem_iff]
        exact List.mem_append_left _ (List.mem_append_right _ hc)
      obtain ⟨info, hinfo⟩ := exists_info_of_mem_bare hmem
      exact ⟨info, hposted hinfo⟩
    refine ⟨hdev, hnotif, ?_, ?_, hsweep, hstream, fun r => ?_, hemitted, hhost, hpin, ?_, hposts.buffers, hposts.copy,
      ⟨writes ++ fs ++ cs, by rw [hposts.rings], ?_, hbare⟩, fun i => ?_, ?_, ?_, ?_, ?_⟩
    · rw [State.linkLoss_link s reason hhead]
      simp only [State.dropSession, LossReason.endsOff_iff]
      rfl
    · rw [State.linkLoss_framer s reason hhead]
      simp only [State.dropSession, LossReason.endsOff_iff]
      rfl
    · refine (s.linkLoss_regions reason hhead r).trans ?_
      simp only [RegionEntry.lost_eq]
      rfl
    · rw [hposts.rings]
    · rw [List.append_assoc]
      exact List.sublist_append_left _ _
    · rw [hposts.entry]
      congr 1
      funext e
      refine OctEntry.settledBy_of_bare (ds := writes ++ fences ++ handOvers ++ waiting) ?_ i e
      have hf : fences.map Completion.bare = fences := by
        have hfences : fences = s.lossFences.map Completion.bare := s.lossFences_bare.symm
        rw [hfences]
        exact List.map_map
      have hh : handOvers.map Completion.bare = handOvers := s.lossHandOvers_bare
      have hw : waiting.map Completion.bare = waiting := s.lossWaiting_bare
      simp only [List.map_append, hf, hh, hw]
      simp only [List.map_append] at hbare
      exact hbare
    · intro r i e hs hc he
      exact hhandOver (State.mem_lossHandOvers_claim hs hc he)
    · intro r i e hs hc he
      exact hhandOver (State.mem_lossHandOvers_release hs hc he)
    · intro f hf i e region offset words refresh lastOfRegion hc ho he
      exact hposted (List.mem_append_left _ (List.mem_append_left _ (State.mem_writesOf hf hc ho he)))
    · intro i e m he hc hp hm ho
      have hmem := State.mem_lossFences he hc hp ho
      rw [hm] at hmem
      exact hposted (List.mem_append_left _ (List.mem_append_right _ (hfs.mem_iff.2 hmem)))
  · have hstill := s.linkLoss_still reason h
    exact ⟨hstill.mirror, hstill.watch, hstill.queue, hstill.staging, hstill.subRing, hstill.count⟩
  · intro s reason i rest e r offset count source waitRemote hw hrun hq he hc hstate howner hclaims words t
    have h := State.linkLoss_wrote reason
      (State.lossEnd_wrote reason hw hrun ⟨hq, he, count, waitRemote, hc⟩ hstate howner hclaims)
    have hinfo : s.writeInfo r words.length =
        { w0 := BitVec.ofNat 32 words.length, w1 := (s.region r).generation, w2 := 0 } := by
      simp [State.writeInfo, hstate, OwnState.code]
    have hposted := h.posted
    rw [hinfo] at hposted
    exact ⟨h.mirror, h.watch, h.queue, h.entry, hposted, h.staging, h.subRing, h.count⟩

end Sys2Proof.Machine
end

section
/-! What every link loss leaves behind, whatever stands at the head of the Execution Queue. -/

namespace Sys2Proof.Machine

/-- No session runs and no request pends, before and after; the device, the link and the Transmit List are the same. -/
structure State.StaysLost (s t : State) : Prop where
  dev  : t.dev = s.dev
  link : t.link = s.link
  list : t.stream.list = s.stream.list
  lost : t.Lost

theorem State.StaysLost.trans {s t u : State} (h : s.StaysLost t) (k : t.StaysLost u) : s.StaysLost u :=
  ⟨k.dev.trans h.dev, k.link.trans h.link, k.list.trans h.list, k.lost⟩

theorem State.Lost.of_eq {s t : State} (h : s.Lost) (hl : t.link = s.link) (hr : t.regions = s.regions) : t.Lost where
  silent := by simpa [State.streaming, hl] using h.silent
  norequest r := by simpa [State.region, hr] using h.norequest r

theorem State.region_writeTakesEffect_pending (s : State) (e : OctEntry) (r q : Fin 64) :
    ((s.writeTakesEffect e r).region q).pending = (s.region q).pending := by
  rw [State.writeTakesEffect_eq, State.region_unstaged]
  split
  next h => rw [h]
  next => rfl

theorem State.writeCompletes_staysLost {s : State} (h : s.Lost) (i : Fin 32) (e : OctEntry) (r : Fin 64) (st : Status)
    (info : Info) : s.StaysLost (s.writeCompletes i e r st info) := by
  have hregions : ((s.writeTakesEffect e r).finishHead i st info).regions = (s.writeTakesEffect e r).regions := by simp
  have hpending (q : Fin 64) : (((s.writeTakesEffect e r).finishHead i st info).region q).pending = none := by
    rw [State.region, hregions]
    exact (s.region_writeTakesEffect_pending e r q).trans (h.norequest q)
  rw [State.writeCompletes, State.grantIfDue_of_no_request (hpending r)]
  exact ⟨by simp, by simp, by simp [State.writeTakesEffect],
    ⟨by simpa [State.streaming] using h.silent, hpending⟩⟩

theorem State.presentWrite_staysLost {s : State} (h : s.Lost) (i : Fin 32) (e : OctEntry) (r : Fin 64) (offset : Nat)
    (words : List Word) (waitRemote : Bool) : s.StaysLost (s.presentWrite i e r offset words waitRemote) := by
  have happly : s.StaysLost (s.apply r offset words .localHost) := ⟨rfl, rfl, rfl, h.of_eq rfl rfl⟩
  unfold State.presentWrite
  simp only [h.silent, if_true]
  split
  · exact happly.trans (State.writeCompletes_staysLost happly.lost ..)
  · exact ⟨rfl, rfl, rfl, h.of_eq rfl rfl⟩

theorem State.presentHeadWrite_staysLost {s : State} (h : s.Lost) : s.StaysLost s.presentHeadWrite := by
  have same : s.StaysLost s := ⟨rfl, rfl, rfl, h⟩
  unfold State.presentHeadWrite
  split
  · exact same
  split
  · exact same
  split
  · exact State.presentWrite_staysLost h ..
  · exact same

theorem State.settleOwnership_staysLost {s : State} (h : s.Lost) : s.StaysLost s.settleOwnership :=
  ⟨by simp, by simp, by simp, State.settleOwnership_lost h⟩

theorem State.lossEnd_staysLost (s : State) (reason : LossReason) :
    (s.lossBase reason).StaysLost (s.lossEnd reason) := by
  have hlost := s.lossBase_lost reason
  have hsettled := State.settleOwnership_staysLost hlost
  have hpresented := State.presentHeadWrite_staysLost hlost
  rcases s.lossEnd_orders reason with ⟨_, hend⟩ | ⟨_, hend | hend⟩ <;> rw [hend]
  · exact hsettled
  · exact hsettled.trans (State.presentHeadWrite_staysLost hsettled.lost)
  · exact hpresented.trans (State.settleOwnership_staysLost hpresented.lost)

/-- A loss leaves the device state, the link in OFF or SEEKING by its reason, an empty Transmit List and no pending
request (R42, R63, R99). -/
theorem State.linkLoss_leaves (s : State) (reason : LossReason) :
    (s.linkLoss reason).dev.state = s.dev.state ∧
    (s.linkLoss reason).link.state = (if reason.endsOff then .off else .seeking) ∧
    (s.linkLoss reason).stream.list = [] ∧ ∀ r, ((s.linkLoss reason).region r).pending = none := by
  have hend := s.lossEnd_staysLost reason
  obtain ⟨hdev, _, hlink, _, _, hstream, _⟩ := s.lossBase_blocks reason
  obtain ⟨hdev', _, _, _, hstream', _⟩ := s.linkLoss_blocks reason
  refine ⟨?_, ?_, ?_, fun r => ?_⟩
  · rw [hdev', hend.dev, hdev]; rfl
  · have hstate : (s.lossEnd reason).link.state = if reason.endsOff then .off else .seeking := by
      rw [hend.link, hlink]; rfl
    rw [State.linkLoss_eq]
    split
    next hoff => simpa [hoff] using hstate
    next => rfl
  · rw [hstream', hend.list, hstream]
  · rw [State.linkLoss_region]; exact hend.lost.norequest r

end Sys2Proof.Machine
end

section
/-! The commands that neither reset, control nor load the part keep the device state or enter FAULTED, and no link leaves
OFF outside RUNNING. -/

namespace Sys2Proof.Machine

open State.StaysOrFaults

/-! ## Shared guards -/

/-- In RUNNING nothing is asked of the link. -/
theorem State.StaysOrFaults.of_running {s t : State} (hs : s.dev.state = .running) (ht : t.dev.state = s.dev.state) :
    s.StaysOrFaults t := ⟨.inl ht, fun h => absurd hs h⟩

theorem State.linkLoss_staysOrFaults {s : State} (h : s.link.state ≠ .off) (reason : LossReason) :
    s.StaysOrFaults (s.linkLoss reason) := by
  obtain ⟨hdev, _⟩ := s.linkLoss_leaves reason
  exact ⟨.inl hdev, .of_ne h⟩

theorem State.atHead_staysOrFaults {s : State} {f : Fin 32 → OctEntry → State}
    (h : s.dev.state = .running → ∀ i e, s.StaysOrFaults (f i e)) : s.StaysOrFaults (s.atHead f) := by
  unfold State.atHead
  split
  next hrun =>
    split
    · exact refl s
    split
    · exact refl s
    split
    · exact h hrun _ _
    · exact refl s
  next => exact refl s

theorem State.takeHeld_staysOrFaults {s : State} {α : Type} {kind : Frame → Option α} {f : State → α → State}
    (h : ∀ (t : State) a, t.StaysOrFaults (f t a)) : s.StaysOrFaults (s.takeHeld kind f) := by
  unfold State.takeHeld
  split
  · split
    · exact refl s
    next rest _ =>
      split
      · exact after (t := { s with framer.heldFrames := rest }) rfl (.of_eq rfl) (h _ _)
      · exact refl s
  · exact refl s

theorem State.filtered_staysOrFaults {s : State} {epoch : BitVec 16} {f : State → State}
    (h : ∀ t : State, t.link.state ≠ .off → t.StaysOrFaults (f t)) : s.StaysOrFaults (s.filtered epoch f) := by
  unfold State.filtered
  split
  next hpeer =>
    have hne : s.restartSilence.link.state ≠ .off := fun hoff => by
      have hs : s.link.state = .off := hoff
      simp [hs, LinkState.hasPeer] at hpeer
    split
    · exact after (t := s.restartSilence) (by simp) (.of_eq rfl) (h _ hne)
    · exact of_eq rfl rfl
  next => exact refl s

theorem State.toStream_staysOrFaults {s : State} {epoch : BitVec 16} {f : State → State}
    (h : ∀ t : State, t.StaysOrFaults (f t)) : s.StaysOrFaults (s.toStream epoch f) := by
  refine State.filtered_staysOrFaults fun t _ => ?_
  split
  · exact h t
  · exact refl t

theorem State.takeSequenced_staysOrFaults (s : State) (seq acked : BitVec 8) {f : State → State}
    (h : ∀ t : State, t.StaysOrFaults (f t)) : s.StaysOrFaults (s.takeSequenced seq acked f) := by
  refine (s.processAck_staysOrFaults acked).andThen (f := fun t =>
    if (seq - t.stream.expected).toNat = 0 then f t.takenInOrder
    else if (seq - t.stream.expected).toNat ≤ 127 then t.raise .outOfOrder
    else { t.raise .duplicates with stream.ackDue := true }) ?_
  split
  · exact after (t := (s.processAck acked).takenInOrder) rfl (.of_eq rfl) (h _)
  split
  · exact of_eq rfl rfl
  · exact of_eq rfl rfl

theorem State.receiveSequenced_staysOrFaults (s : State) {α : Type} (kind : SeqContent → Option α)
    {dispatch : State → α → State} (h : ∀ (t : State) a, t.StaysOrFaults (dispatch t a)) :
    s.StaysOrFaults (s.receiveSequenced kind dispatch) :=
  State.takeHeld_staysOrFaults fun _ _ => State.toStream_staysOrFaults fun u =>
    u.takeSequenced_staysOrFaults _ _ fun v => h v _

theorem State.onRegion_staysOrFaults {s : State} {region : Byte} {f : Fin 64 → State}
    (h : ∀ r, s.StaysOrFaults (f r)) : s.StaysOrFaults (s.onRegion region f) := by
  unfold State.onRegion
  split
  · exact of_eq rfl rfl
  split
  · exact of_eq rfl rfl
  · exact h _

/-! ## Commands at the head of the Execution Queue -/

theorem State.readAtHead_staysOrFaults (s : State) : s.StaysOrFaults s.readAtHead := by
  refine State.atHead_staysOrFaults fun _ i e => ?_
  split
  · split
    · exact of_eq (by simp) (by simp)
    split
    · exact refl s
    split
    · exact s.enterFaulted_staysOrFaults _
    · exact of_eq (by simp) (by simp)
  · exact refl s

theorem State.claimEffect_staysOrFaults (s : State) (i : Fin 32) (e : OctEntry) (r : Fin 64) (noWait : Bool) :
    s.StaysOrFaults (s.claimEffect i e r noWait) := by
  unfold State.claimEffect State.claimStarts
  repeat' split
  all_goals exact of_eq (by simp) (by simp)

theorem State.releaseEffect_staysOrFaults (s : State) (i : Fin 32) (e : OctEntry) (r : Fin 64) :
    s.StaysOrFaults (s.releaseEffect i e r) := by
  have starts : s.StaysOrFaults (s.releaseStarts i e r) :=
    (s.grantStep_staysOrFaults r).andThen (of_eq (by simp) (by simp))
  unfold State.releaseEffect
  repeat' split
  any_goals exact of_eq (by simp) (by simp)
  exact starts

theorem State.unholdEffect_staysOrFaults (s : State) (r : Fin 64) : s.StaysOrFaults (s.unholdEffect r) := by
  unfold State.unholdEffect
  split
  · split
    · exact after (t := s.setHeld r false) rfl (.of_eq rfl) (State.grantStep_staysOrFaults _ r)
    · exact of_eq rfl rfl
  · exact refl s

theorem State.unholdAtHead_staysOrFaults (s : State) : s.StaysOrFaults s.unholdAtHead := by
  refine State.atHead_staysOrFaults fun _ i e => ?_
  split
  · split
    · exact of_eq (by simp) (by simp)
    split
    · exact of_eq (by simp) (by simp)
    · exact (s.unholdEffect_staysOrFaults _).andThen (of_eq (by simp) (by simp))
  · exact refl s

theorem State.setClassEffect_staysOrFaults (s : State) (i : Fin 32) (r : Fin 64) (cls : RegionClass) (here : Bool) :
    s.StaysOrFaults (s.setClassEffect i r cls here) := by
  unfold State.setClassEffect
  repeat' split
  all_goals exact of_eq (by simp) (by simp)

/-- The loss of LINK_DOWN leaves the device state as it is. -/
theorem State.linkDownEffect_state (s : State) : s.linkDownEffect.dev.state = s.dev.state := by
  unfold State.linkDownEffect
  split
  · rfl
  · rfl
  · exact (s.linkLoss_leaves .host).1

theorem State.linkAtHead_staysOrFaults (s : State) :
    s.StaysOrFaults s.linkUpAtHead ∧ s.StaysOrFaults s.linkDownAtHead := by
  constructor
  · refine State.atHead_staysOrFaults fun hrun i e => .of_running hrun ?_
    repeat' split
    all_goals simp
  · refine State.atHead_staysOrFaults fun hrun i e => .of_running hrun ?_
    split
    · simpa using s.linkDownEffect_state
    · rfl

/-! ## Ends of transfers and POST writes -/

theorem State.stagingEnds_staysOrFaults (s : State) (j : Fin 8) (result : Option (List FoundByte)) :
    s.StaysOrFaults (s.stagingEnds j result) := by
  have resumes (t : State) (i : Fin 32) : t.StaysOrFaults (t.writeResumes i) := by
    unfold State.writeResumes
    repeat' split
    any_goals exact refl t
    exact t.writeEffect_staysOrFaults ..
  unfold State.stagingEnds
  split
  · exact refl s
  split
  · exact refl s
  split
  · exact refl s
  next slot _ _ e _ _ =>
    split
    · exact after (t := { s with
        cmd.staging := s.cmd.staging.set j
          (some (slot.ended (result.map (s.hostMem.load e.command.bufferAddr)))) }) rfl (.of_eq rfl) (resumes _ _)
    · exact of_eq (by simp) (by simp)
    · exact refl s

theorem State.readOutputEnds_staysOrFaults (s : State) (j : Fin 4) (ok : Bool) :
    s.StaysOrFaults (s.readOutputEnds j ok) := by
  unfold State.readOutputEnds
  simp only []
  repeat' split
  all_goals exact of_eq (by simp) (by simp)

theorem State.statsOutputEnds_staysOrFaults (s : State) (ok : Bool) : s.StaysOrFaults (s.statsOutputEnds ok) := by
  unfold State.statsOutputEnds
  simp only []
  repeat' split
  all_goals exact of_eq (by simp) (by simp)

theorem State.fetchEnds_staysOrFaults (s : State) (ring : Ring) (result : Option (Vector FoundByte 32)) :
    s.StaysOrFaults (s.fetchEnds ring result) := by
  unfold State.fetchEnds
  simp only []
  repeat' split
  any_goals exact of_eq (by simp) (by simp)
  exact after (by simp) (.of_eq (by simp)) (State.enterFaulted_staysOrFaults _ _)

theorem State.postWrite_staysOrFaults (s : State) (selector index : Nat) :
    s.StaysOrFaults (s.postWrite selector index) := by
  unfold State.postWrite State.postProducer State.postConsumer State.postNotify
  simp only []
  repeat' split
  any_goals exact of_eq (by simp) (by simp)
  all_goals exact s.enterFaulted_staysOrFaults _

/-! ## Frames and timers -/

theorem State.helloInJoining_staysOrFaults {s : State} (h : s.link.state ≠ .off) (epoch : BitVec 16) (b : HelloBody) :
    s.StaysOrFaults (s.helloInJoining epoch b) := by
  have joins (t : State) (ht : t.dev.state = s.dev.state) (c : HelloContent) : s.StaysOrFaults (t.completeJoin c) :=
    after (by simp [ht]) (.of_ne h) (State.refreshRun_staysOrFaults _ _)
  unfold State.helloInJoining
  simp only []
  split
  · split
    · exact joins _ (by simp) _
    · exact of_eq rfl rfl
  split
  · exact ⟨.inl (by simp), .of_ne h⟩
  · exact of_eq rfl rfl

theorem State.helloInSeeking_state (s : State) (epoch : BitVec 16) (b : HelloBody) :
    (s.helloInSeeking epoch b).dev.state = s.dev.state := by
  unfold State.helloInSeeking
  split <;> simp

theorem State.helloInSession_staysOrFaults {s : State} (h : s.link.state ≠ .off) (epoch : BitVec 16) (b : HelloBody) :
    s.StaysOrFaults (s.helloInSession epoch b) := by
  have hloss := s.linkLoss_staysOrFaults h .peerRestart
  obtain ⟨_, hseeking, _⟩ := s.linkLoss_leaves .peerRestart
  unfold State.helloInSession State.confirmAgain
  split
  · repeat' split
    all_goals exact of_eq rfl rfl
  · exact hloss.andThen ⟨.inl (State.helloInSeeking_state _ epoch b), .of_ne (by simp [hseeking, LossReason.endsOff])⟩

theorem State.takeHelloFrame_staysOrFaults (s : State) (epoch : BitVec 16) (b : HelloBody) :
    s.StaysOrFaults (s.takeHelloFrame epoch b) := by
  unfold State.takeHelloFrame
  split
  next h => exact ⟨.inl (s.helloInSeeking_state epoch b), .of_ne (by simp [h])⟩
  next h => exact State.helloInJoining_staysOrFaults (by simp [h]) ..
  next h => exact State.helloInSession_staysOrFaults (by simp [h]) ..
  next h => exact State.helloInSession_staysOrFaults (by simp [h]) ..
  · exact refl s
  · exact refl s

theorem State.takeRequest_staysOrFaults (s : State) (r : Fin 64) (generation : BitVec 32) (noWait : Bool) :
    s.StaysOrFaults (s.takeRequest r generation noWait) := by
  unfold State.takeRequest State.requestInHere
  simp only []
  repeat' split
  any_goals exact of_eq (by simp) (by simp)
  exact s.grantStep_staysOrFaults r

theorem State.takeGrant_staysOrFaults (s : State) (r : Fin 64) (generation : BitVec 32) (content : Option (List Word)) :
    s.StaysOrFaults (s.takeGrant r generation content) := by
  unfold State.takeGrant State.grantAnswersClaim State.grantArrives
  simp only []
  repeat' split
  all_goals exact of_eq (by simp) (by simp)

theorem State.takeDeny_staysOrFaults (s : State) (r : Fin 64) (reason : Byte) :
    s.StaysOrFaults (s.takeDeny r reason) := by
  unfold State.takeDeny
  simp only []
  repeat' split
  all_goals exact of_eq (by simp) (by simp)

theorem State.takeUpdate_staysOrFaults (s : State) (u : ReceivedUpdate) : s.StaysOrFaults (s.takeUpdate u) := by
  refine State.onRegion_staysOrFaults fun r => ?_
  unfold State.applyUpdate
  simp only []
  repeat' split
  all_goals exact of_eq (by simp) (by simp)

theorem State.takeSync_staysOrFaults (s : State) : s.StaysOrFaults s.takeSync := by
  unfold State.takeSync
  split
  · exact of_eq rfl rfl
  split
  next h => exact ⟨.inl (by simp), .of_ne (by simp [h])⟩
  · exact refl s

theorem State.takeSnapshot_staysOrFaults (s : State) (region : Byte) (sweep : BitVec 16) (generation : BitVec 32)
    (words : List Word) : s.StaysOrFaults (s.takeSnapshot region sweep generation words) := by
  unfold State.takeSnapshot State.applySnapshot
  simp only []
  repeat' split
  all_goals exact of_eq (by simp) (by simp)

theorem State.retransmissionExpires_staysOrFaults (s : State) : s.StaysOrFaults s.retransmissionExpires := by
  unfold State.retransmissionExpires
  simp only []
  split
  · exact refl s
  next hruns =>
    have hne : s.link.state ≠ .off := fun h => hruns (.inl (by simp [State.streaming, h]))
    split
    · exact after (t := s.raise .retransmitRounds) rfl (.of_eq rfl)
        (State.linkLoss_staysOrFaults (s := s.raise .retransmitRounds) hne _)
    · exact of_eq rfl rfl

theorem State.silenceExpires_staysOrFaults (s : State) : s.StaysOrFaults s.silenceExpires := by
  unfold State.silenceExpires
  split
  next h => exact State.linkLoss_staysOrFaults (fun hoff => by simp [hoff, LinkState.hasPeer] at h) _
  next => exact refl s

theorem State.takeChoice_staysOrFaults (s : State) (c : FrameChoice) : s.StaysOrFaults (s.takeChoice c) := by
  cases c
  case snapshot r =>
    simp only [State.takeChoice, State.sendSnapshot]
    split
    · exact s.enterFaulted_staysOrFaults _
    · exact of_eq (by simp) (by simp)
  all_goals
    simp only [State.takeChoice, State.takeBye, State.takeHello, State.takeListed, State.takeAck]
    repeat' split
    all_goals exact of_eq (by simp) (by simp)

theorem State.takeFrame_staysOrFaults (s : State) : s.StaysOrFaults s.takeFrame := by
  unfold State.takeFrame
  split
  · exact refl s
  split
  · exact after (by simp) (.of_eq (by simp)) (State.takeChoice_staysOrFaults _ _)
  · exact of_eq (by simp) (by simp)

/-! ## Received frames -/

theorem State.helloReceived_staysOrFaults (s : State) : s.StaysOrFaults (s.effect .helloReceived) := by
  simp only [State.effect]
  exact State.takeHeld_staysOrFaults fun t x => t.takeHelloFrame_staysOrFaults _ _

/-- The sequenced frames: what each kind dispatches keeps the device state or enters FAULTED (R57, R58). -/
theorem State.sequencedReceived_staysOrFaults (s : State) :
    s.StaysOrFaults (s.effect .updateReceived) ∧ s.StaysOrFaults (s.effect .ownReqReceived) ∧
    s.StaysOrFaults (s.effect .ownGrantReceived) ∧ s.StaysOrFaults (s.effect .ownDenyReceived) ∧
    s.StaysOrFaults (s.effect .syncDoneReceived) := by
  simp only [State.effect]
  exact ⟨s.receiveSequenced_staysOrFaults _ State.takeUpdate_staysOrFaults,
    s.receiveSequenced_staysOrFaults _ fun t _ => State.onRegion_staysOrFaults fun r =>
      t.takeRequest_staysOrFaults r _ _,
    s.receiveSequenced_staysOrFaults _ fun t _ => State.onRegion_staysOrFaults fun r =>
      t.takeGrant_staysOrFaults r _ _,
    s.receiveSequenced_staysOrFaults _ fun t _ => State.onRegion_staysOrFaults fun r => t.takeDeny_staysOrFaults r _,
    s.receiveSequenced_staysOrFaults _ fun t _ => t.takeSync_staysOrFaults⟩

/-- The frames outside the sequence (R52, R73, R94, R96). -/
theorem State.plainReceived_staysOrFaults (s : State) :
    s.StaysOrFaults (s.effect .ackReceived) ∧ s.StaysOrFaults (s.effect .snapshotReceived) ∧
    s.StaysOrFaults (s.effect .idleReceived) ∧ s.StaysOrFaults (s.effect .byeReceived) := by
  simp only [State.effect]
  exact ⟨State.takeHeld_staysOrFaults fun t x => State.toStream_staysOrFaults fun u => u.processAck_staysOrFaults _,
    State.takeHeld_staysOrFaults fun t x => State.toStream_staysOrFaults fun u => u.takeSnapshot_staysOrFaults _ _ _ _,
    State.takeHeld_staysOrFaults fun t x => State.filtered_staysOrFaults fun u _ => refl u,
    State.takeHeld_staysOrFaults fun t x => State.filtered_staysOrFaults fun u hu =>
      State.linkLoss_staysOrFaults hu _⟩

/-! ## Every other command -/

/-- The commands that set the device state by themselves: resets, the setup load, control and register writes and the stop
reports. -/
def setsDevice : Instr → Bool
  | .coldReset | .perstNRelease | .initDone | .start | .stop | .reset | .clearFault | .controlInvalidCode _
  | .registerWrite _ _ | .setupReadDone _ | .ringManagerStopReport | .notificationStopReport => true
  | _ => false

theorem State.effect_staysOrFaults (s : State) (c : Instr) (hc : setsDevice c = false) :
    s.StaysOrFaults (s.effect c) := by
  cases c
  case coldReset | perstNRelease | initDone | start | stop | reset | clearFault | controlInvalidCode | registerWrite
    | setupReadDone | ringManagerStopReport | notificationStopReport => exact Bool.noConfusion hc
  case producerIndexPost | completionConsumerPost | notificationConsumerPost | badPostSelector =>
    simp only [State.effect]
    exact s.postWrite_staysOrFaults _ _
  case recordFetchDone => exact s.fetchEnds_staysOrFaults _ _
  case recordPresentation => exact of_eq (by simp [State.effect]) (by simp [State.effect])
  case nop | fence | stats | queryRegion | hold | watchSet | watchClear =>
    refine State.atHead_staysOrFaults fun _ i e => ?_
    repeat' split
    all_goals exact of_eq (by simp) (by simp)
  case write =>
    refine State.atHead_staysOrFaults fun _ i e => ?_
    split
    · split
      · exact of_eq rfl rfl
      · exact s.writeEffect_staysOrFaults ..
    · exact refl s
  case read => exact s.readAtHead_staysOrFaults
  case claim =>
    refine State.atHead_staysOrFaults fun _ i e => ?_
    split
    · exact s.claimEffect_staysOrFaults ..
    · exact refl s
  case release =>
    refine State.atHead_staysOrFaults fun _ i e => ?_
    split
    · exact s.releaseEffect_staysOrFaults ..
    · exact refl s
  case unhold => exact s.unholdAtHead_staysOrFaults
  case setClass =>
    refine State.atHead_staysOrFaults fun _ i e => ?_
    split
    · exact s.setClassEffect_staysOrFaults ..
    · exact refl s
  case linkUp => exact s.linkAtHead_staysOrFaults.1
  case linkDown => exact s.linkAtHead_staysOrFaults.2
  case stagingTransferDone => exact s.stagingEnds_staysOrFaults _ _
  case readOutputDone => exact s.readOutputEnds_staysOrFaults _ _
  case statsOutputDone => exact s.statsOutputEnds_staysOrFaults _
  case completionWriteDone ok =>
    simp only [State.effect, State.completionWriteEnds]
    repeat' split
    any_goals exact of_eq (by simp) (by simp)
    exact s.enterFaulted_staysOrFaults _
  case frameTake => exact s.takeFrame_staysOrFaults
  case helloTimerExpiry =>
    simp only [State.effect, State.helloExpires]
    split <;> exact of_eq rfl rfl
  case transmitEnd | deferralTimerExpiry | quietTimerExpiry | linkActTimeout | startDelimiter
    | receiveFrameEnd | dataByte | codeError =>
    simp only [State.effect, State.transmitEnds, State.deferralExpires, State.quietExpires, State.linkActFalls,
      State.frameEnds, State.frameBegins, State.collecting]
    repeat' split
    all_goals exact of_eq (by simp) (by simp)
  case helloReceived => exact s.helloReceived_staysOrFaults
  case updateReceived => exact s.sequencedReceived_staysOrFaults.1
  case ownReqReceived => exact s.sequencedReceived_staysOrFaults.2.1
  case ownGrantReceived => exact s.sequencedReceived_staysOrFaults.2.2.1
  case ownDenyReceived => exact s.sequencedReceived_staysOrFaults.2.2.2.1
  case syncDoneReceived => exact s.sequencedReceived_staysOrFaults.2.2.2.2
  case ackReceived => exact s.plainReceived_staysOrFaults.1
  case snapshotReceived => exact s.plainReceived_staysOrFaults.2.1
  case idleReceived => exact s.plainReceived_staysOrFaults.2.2.1
  case byeReceived => exact s.plainReceived_staysOrFaults.2.2.2
  case retransmissionTimerExpiry => exact s.retransmissionExpires_staysOrFaults
  case sweepTimerExpiry =>
    simp only [State.effect, State.sweepExpires]
    split <;> exact of_eq (by simp) (by simp)
  case silenceTimerExpiry => exact s.silenceExpires_staysOrFaults
  case watchEvaluation => exact of_eq (by simp [State.effect]) (by simp [State.effect])
  case notificationTake => exact of_eq (by simp [State.effect]) (by simp [State.effect])
  case notificationWriteDone ok =>
    simp only [State.effect, State.notifyWriteEnds]
    repeat' split
    any_goals exact of_eq (by simp) (by simp)
    exact s.enterFaulted_staysOrFaults _

end Sys2Proof.Machine
end

section
/-! Every step keeps the link OFF outside RUNNING and FAULTED and the timers of a FAULTED part stopped. -/

namespace Sys2Proof.Machine

/-! ## Both invariants at once -/

/-- Each of the two invariants that holds before holds after. -/
structure State.KeepsRest (s t : State) : Prop where
  rests   : s.LinkRests → t.LinkRests
  stopped : s.FaultStopped → t.FaultStopped

namespace State.KeepsRest

theorem refl (s : State) : s.KeepsRest s := ⟨id, id⟩

theorem trans {s t u : State} (h : s.KeepsRest t) (k : t.KeepsRest u) : s.KeepsRest u :=
  ⟨k.rests ∘ h.rests, k.stopped ∘ h.stopped⟩

/-- A part that does not end in FAULTED needs no stopped timers. -/
theorem of_unfaulted {s t : State} (ht : t.dev.state ≠ .faulted) (hl : s.LinkRests → t.LinkRests) : s.KeepsRest t :=
  ⟨hl, fun _ h => absurd h ht⟩

/-- A link that ends OFF rests. -/
theorem of_off {s t : State} (ht : t.dev.state ≠ .faulted) (hl : t.link.state = .off) : s.KeepsRest t :=
  of_unfaulted ht fun _ _ => hl

/-- A link that rests stays as it is where the part moves among the states in which it rests. -/
theorem of_resting {s t : State} (hs : s.dev.state = .init ∨ s.dev.state = .halted ∨ s.dev.state = .loading ∨
    s.dev.state = .stopping) (ht : t.dev.state ≠ .faulted) (hl : t.link.state = s.link.state) : s.KeepsRest t :=
  of_unfaulted ht fun h _ => hl.trans (h hs)

/-- The blocks with the timers are as before, and the device state is. -/
theorem of_same {s t : State} (hd : t.dev.state = s.dev.state) (hr : t.regions = s.regions) (hst : t.stream = s.stream)
    (hsw : t.sweep = s.sweep) (hl : t.link = s.link) (hf : t.framer = s.framer) : s.KeepsRest t where
  rests h := by simpa only [LinkRests, hd, hl] using h
  stopped h := by simpa only [FaultStopped, region, hd, hr, hst, hsw, hl, hf] using h

end State.KeepsRest

open State.KeepsRest

/-! ## Commands that set the device state -/

theorem State.heldInReset_keepsRest (s : State) : s.KeepsRest s.heldInReset where
  rests := id
  stopped h hf := by
    obtain ⟨hretry, hsweep, hhello, hsilence, _, _, hdefer⟩ := h hf
    exact ⟨hretry, hsweep, hhello, hsilence, rfl, rfl, hdefer⟩

theorem State.released_keepsRest (s : State) : s.KeepsRest s.released := by
  unfold State.released
  split
  · exact of_off (by simp [State.reset, DeviceBlock.reset]) rfl
  · exact refl s

theorem State.initEnds_keepsRest (s : State) : s.KeepsRest s.initEnds := by
  unfold State.initEnds
  split
  next h => exact of_resting (.inl h) (by simp) rfl
  next => exact refl s

theorem State.refuseControl_keepsRest (s : State) : s.KeepsRest s.refuseControl := of_same rfl rfl rfl rfl rfl rfl

theorem State.startWritten_keepsRest (s : State) : s.KeepsRest s.startWritten := by
  unfold State.startWritten
  split
  next h =>
    simp only []
    split
    · exact of_resting (.inr (.inl h)) (by simp) rfl
    · exact of_resting (.inr (.inl h)) (by simp [State.loadFails]) rfl
  next => exact s.refuseControl_keepsRest

theorem State.resetWritten_keepsRest (s : State) : s.KeepsRest s.resetWritten := by
  unfold State.resetWritten
  split
  · exact of_same rfl rfl rfl rfl rfl rfl
  · exact of_off (by simp [State.deviceReset]) rfl

theorem State.clearFaultWritten_keepsRest (s : State) : s.KeepsRest s.clearFaultWritten := by
  unfold State.clearFaultWritten
  split
  · exact of_off (by simp) rfl
  · exact s.refuseControl_keepsRest

/-- A loaded setup leaves the part RUNNING, where nothing is asked of the link. -/
theorem State.loadSetup_keepsRest (s : State) (p : SetupParams) : s.KeepsRest (s.loadSetup p) := by
  have hrun : (s.loadSetup p).dev.state = .running := by
    unfold State.loadSetup
    simp only []
    split <;> simp
  exact of_unfaulted (by simp [hrun]) fun _ h => by simp [hrun] at h

theorem State.setupEnds_keepsRest (s : State) (result : Option (Vector FoundByte 128)) :
    s.KeepsRest (s.setupEnds result) := by
  unfold State.setupEnds
  split
  next h =>
    have fails (e : SetupError) : s.KeepsRest (s.loadFails e) :=
      of_resting (.inr (.inr (.inl h))) (by simp [State.loadFails]) rfl
    split
    · exact fails _
    split
    · exact fails _
    · exact s.loadSetup_keepsRest _
  next => exact refl s

/-! ## STOP and the stop reports (R154, R170, R179) -/

/-- A part that is STOPPING may go on to HALTED, and its link is not moved. -/
def State.MayHalt (s t : State) : Prop :=
  (t.dev.state = s.dev.state ∨ s.dev.state = .stopping ∧ t.dev.state = .halted) ∧ t.link = s.link

theorem State.MayHalt.unfaulted {s t : State} (h : s.MayHalt t) (hs : s.dev.state ≠ .faulted) :
    t.dev.state ≠ .faulted := by
  rcases h.1 with ht | ⟨_, ht⟩
  · rwa [ht]
  · simp [ht]

theorem State.haltIfReported_mayHalt (s : State) : s.MayHalt s.haltIfReported := by
  unfold State.haltIfReported
  split
  next h => exact ⟨.inr ⟨h.1, rfl⟩, rfl⟩
  next => exact ⟨.inl rfl, rfl⟩

theorem State.ringsReport_mayHalt (s : State) : s.MayHalt s.ringsReport := by
  unfold State.ringsReport
  split
  · exact State.haltIfReported_mayHalt { s with dev.rmReport := true }
  · exact ⟨.inl rfl, rfl⟩

theorem State.notifyReport_mayHalt (s : State) : s.MayHalt s.notifyReport := by
  unfold State.notifyReport
  split
  · exact State.haltIfReported_mayHalt { s with dev.npReport := true }
  · exact ⟨.inl rfl, rfl⟩

/-- A report outside STOPPING changes nothing, and one in STOPPING does not move the link. -/
theorem State.reports_keepRest (s : State) : s.KeepsRest s.ringsReport ∧ s.KeepsRest s.notifyReport := by
  by_cases h : s.dev.state = .stopping
  · have reports {t : State} (ht : s.MayHalt t) : s.KeepsRest t :=
      of_resting (.inr (.inr (.inr h))) (ht.unfaulted (by simp [h])) (by rw [ht.2])
    exact ⟨reports s.ringsReport_mayHalt, reports s.notifyReport_mayHalt⟩
  · have hrings : s.ringsReport = s := if_neg fun hs => h hs.1
    have hnotify : s.notifyReport = s := if_neg fun hs => h hs.1
    rw [hrings, hnotify]
    exact ⟨refl s, refl s⟩

theorem State.stopLink_leaves (s : State) :
    s.stopLink.dev.state = s.dev.state ∧ s.stopLink.link.state = .off := by
  unfold State.stopLink
  split
  next h => exact ⟨rfl, h⟩
  next => exact ⟨rfl, rfl⟩
  next =>
    obtain ⟨hdev, hlink, _⟩ := s.linkLoss_leaves .stop
    exact ⟨hdev, hlink⟩

/-- The parts of STOP leave the link OFF and a part that is STOPPING or HALTED. -/
theorem State.stopParts_leave {s : State} (h : s.dev.state = .stopping) :
    s.stopLink.stopAdmission.abortAll.ringsReport.notifyReport.dev.state ≠ .faulted ∧
    s.stopLink.stopAdmission.abortAll.ringsReport.notifyReport.link.state = .off := by
  obtain ⟨hdev, hoff⟩ := s.stopLink_leaves
  have haborted : s.stopLink.stopAdmission.abortAll.dev.state ≠ .faulted := by simp [State.stopAdmission, hdev, h]
  have hlink : s.stopLink.stopAdmission.abortAll.link.state = .off := by simp [State.stopAdmission, hoff]
  have hrings := s.stopLink.stopAdmission.abortAll.ringsReport_mayHalt
  have hnotify := s.stopLink.stopAdmission.abortAll.ringsReport.notifyReport_mayHalt
  exact ⟨hnotify.unfaulted (hrings.unfaulted haborted), by rw [hnotify.2, hrings.2, hlink]⟩

/-- STOP has been accepted, and no block has taken its part yet (R179). -/
def State.stopAccepted (s : State) : State := { s with
  dev.controlRefused := false
  dev.state := .stopping
  dev.rmReport := false
  dev.npReport := false }

theorem State.stopWritten_eq (s : State) : s.stopWritten = if s.dev.state = .running then
    s.stopAccepted.stopLink.stopAdmission.abortAll.ringsReport.notifyReport else s.refuseControl := rfl

theorem State.stopWritten_keepsRest (s : State) : s.KeepsRest s.stopWritten := by
  rw [State.stopWritten_eq]
  split
  · obtain ⟨hstate, hlink⟩ := State.stopParts_leave (s := s.stopAccepted) rfl
    exact of_off hstate hlink
  · exact s.refuseControl_keepsRest

/-! ## Control writes and the register window -/

theorem State.StaysOrFaults.keepsRest {s t : State} (h : s.StaysOrFaults t) (hs : s.dev.state ≠ .faulted) :
    s.KeepsRest t := ⟨h.linkRests, fun _ => h.faultStopped hs⟩

theorem State.controlWrite_keepsRest (s : State) (code : Nat) : s.KeepsRest (s.controlWrite code) := by
  unfold State.controlWrite
  split
  · exact s.startWritten_keepsRest
  · exact s.stopWritten_keepsRest
  · exact s.resetWritten_keepsRest
  · exact s.clearFaultWritten_keepsRest
  · exact s.refuseControl_keepsRest

theorem State.postWrite_keepsRest (s : State) (selector index : Nat) : s.KeepsRest (s.postWrite selector index) := by
  by_cases h : s.dev.state = .running
  · exact (s.postWrite_staysOrFaults selector index).keepsRest (by simp [h])
  · rw [State.postWrite_of_not_running h]
    exact refl s

theorem State.writeRegister_keepsRest (s : State) (offset : Nat) (value : Word) :
    s.KeepsRest (s.writeRegister offset value) := by
  unfold State.writeRegister
  split
  · exact s.controlWrite_keepsRest _
  · exact of_same rfl rfl rfl rfl rfl rfl
  · exact of_same rfl rfl rfl rfl rfl rfl
  · exact s.postWrite_keepsRest _ _
  · exact refl s

theorem State.writeWindow_keepsRest (s : State) (offset : Nat) (data : List Byte) :
    s.KeepsRest (s.writeWindow offset data) := by
  unfold State.writeWindow
  induction wholeWords offset data generalizing s with
  | nil => exact refl s
  | cons x l ih => exact (s.writeRegister_keepsRest x.1 x.2).trans (ih _)

/-! ## Frames sent in FAULTED (R81, R107, R113) -/

/-- A FAULTED part sends a BYE or nothing (R81, R109). -/
theorem State.takeFrame_faulted {s : State} (h : s.dev.state = .faulted) : s.takeFrame = s ∨ s.takeFrame = s.takeBye := by
  have hchoice : s.chooseFrame = if s.byeReady then some .bye else none := by
    simp [State.chooseFrame, State.not_working_of_faulted h]
  have hsettled : s.settleOffer = s := by
    unfold State.settleOffer
    rw [hchoice]
    cases s.byeReady <;> rfl
  unfold State.takeFrame
  rw [hsettled, hchoice]
  split
  · exact .inl rfl
  · cases s.byeReady
    · exact .inl rfl
    · exact .inr rfl

theorem State.takeBye_keepsRest {s : State} (h : s.dev.state = .faulted) : s.KeepsRest s.takeBye := by
  unfold State.takeBye
  split
  · refine ⟨id, fun hs hf => ?_⟩
    obtain ⟨hretry, hsweep, hhello, hsilence, hquiet, hheld, hdefer⟩ := hs h
    exact ⟨hretry, hsweep, hhello, hsilence, by simpa [State.transmit, State.working, h] using hquiet, hheld, hdefer⟩
  · exact refl s

/-- The framer's part that the commands for sending leave alone in FAULTED. -/
theorem State.sending_faulted_keepsRest {s : State} (h : s.dev.state = .faulted) :
    s.KeepsRest s.takeFrame ∧ s.KeepsRest s.transmitEnds ∧ s.KeepsRest s.linkActFalls := by
  refine ⟨?_, ?_, of_same rfl rfl rfl rfl rfl rfl⟩
  · rcases State.takeFrame_faulted h with hb | hb <;> rw [hb]
    · exact refl s
    · exact State.takeBye_keepsRest h
  · unfold State.transmitEnds
    split
    · exact ⟨id, fun hs hf => hs h⟩
    · exact refl s

/-! ## Every command, and the step -/

theorem State.effect_keepsRest {s : State} (hp : s.dev.perst = false) (c : Instr) : s.KeepsRest (s.effect c) := by
  cases hc : setsDevice c
  case true =>
    cases c
    case coldReset => exact s.heldInReset_keepsRest
    case perstNRelease => exact s.released_keepsRest
    case initDone => exact s.initEnds_keepsRest
    case start => exact s.startWritten_keepsRest
    case stop => exact s.stopWritten_keepsRest
    case reset => exact s.resetWritten_keepsRest
    case clearFault => exact s.clearFaultWritten_keepsRest
    case controlInvalidCode => exact s.controlWrite_keepsRest _
    case registerWrite => exact s.writeWindow_keepsRest _ _
    case setupReadDone => exact s.setupEnds_keepsRest _
    case ringManagerStopReport => exact s.reports_keepRest.1
    case notificationStopReport => exact s.reports_keepRest.2
    all_goals exact Bool.noConfusion hc
  case false =>
    have hstays := s.effect_staysOrFaults c hc
    by_cases hf : s.dev.state = .faulted
    case neg => exact hstays.keepsRest hf
    case pos =>
      refine ⟨hstays.linkRests, fun hs => ?_⟩
      obtain ⟨htake, hend, hfall⟩ := State.sending_faulted_keepsRest hf
      cases ha : actsWhenFaulted c
      case false =>
        rw [State.effect_faulted c hp hf hs ha]
        exact hs
      case true =>
        cases c
        case frameTake => exact htake.stopped hs
        case transmitEnd => exact hend.stopped hs
        case linkActTimeout => exact hfall.stopped hs
        case coldReset | start | stop | reset | clearFault | controlInvalidCode | registerWrite =>
          exact Bool.noConfusion hc
        all_goals exact Bool.noConfusion ha

/-- A step idles, or takes a command on the state with the rest of the queue: the command's effect on a part that is not
held in cold reset, and on a held one nothing, an assertion of PERST_N or its release. -/
theorem step_cases {s t : State} (h : step s = .next t) :
    t = s ∨ ∃ (c : Instr) (rest : List Instr) (u : State), u = { s with pending := rest } ∧
      (u.dev.perst = false ∧ t = u.effect c ∨ t = u ∨ t = u.heldInReset ∨ t = u.released) := by
  unfold step at h
  split at h
  · exact .inl (Host.Outcome.next.inj h).symm
  next c rest _ =>
    refine .inr ⟨c, rest, _, rfl, ?_⟩
    generalize ({ s with pending := rest } : State) = u at h ⊢
    cases hp : u.dev.perst
    · rw [exec_eq_effect hp] at h
      exact .inl ⟨rfl, (Host.Outcome.next.inj h).symm⟩
    · rw [exec_held hp] at h
      have ht := (Host.Outcome.next.inj h).symm
      cases c
      case coldReset => exact .inr (.inr (.inl ht))
      case perstNRelease => exact .inr (.inr (.inr ht))
      all_goals exact .inr (.inl ht)

theorem step_keepsRest {s t : State} (h : step s = .next t) : s.KeepsRest t := by
  rcases step_cases h with rfl | ⟨c, rest, u, hu, ht⟩
  · exact refl _
  · have hrest : s.KeepsRest u := by subst hu; exact of_same rfl rfl rfl rfl rfl rfl
    rcases ht with ⟨hp, rfl⟩ | rfl | rfl | rfl
    · exact hrest.trans (State.effect_keepsRest hp c)
    · exact hrest
    · exact hrest.trans u.heldInReset_keepsRest
    · exact hrest.trans u.released_keepsRest

/-- Settles O55: a command either sets the device state by itself, or keeps it or enters FAULTED with every timer stopped,
and none moves a link out of OFF outside RUNNING. -/
theorem stepKeepsPartAtRest : Obligations.StepKeepsPartAtRest := by
  unfold Obligations.StepKeepsPartAtRest
  exact ⟨fun _ _ hs h => (step_keepsRest h).rests hs, fun _ _ hs h => (step_keepsRest h).stopped hs⟩

end Sys2Proof.Machine
end

section
/-! At most one hand-over frame of this part outstanding for each region, and none beside a pending request (R22, R31): the
invariant, and what it takes to keep it. -/

namespace Sys2Proof.Machine

/-! ## The invariant -/

/-- Hand-over frames of this part outstanding for a region. -/
def State.handOvers (s : State) (r : Fin 64) : Nat := s.stream.list.countP fun t => t.content.handsOver r

theorem State.handOvers_eq_zero_iff (s : State) (r : Fin 64) : s.handOvers r = 0 ↔ s.outstanding r = false := by
  simp [State.handOvers, State.outstanding, List.countP_eq_zero]

/-- A request pends in HERE only, at most one hand-over frame is outstanding for a region, and none beside a pending
request. -/
def State.HandOverFits (s : State) : Prop :=
  ∀ r, s.handOvers r ≤ 1 ∧
    ((s.region r).pending.isSome = true → (s.region r).state = .here ∧ s.handOvers r = 0)

theorem State.handOverFits_of_single {s : State} (hf : s.FlagsFit) (hs : s.HandOverSingle) : s.HandOverFits :=
  fun r => ⟨(hs r).1, fun hp => ⟨(hf r).2 hp, (s.handOvers_eq_zero_iff r).2 ((hs r).2 hp)⟩⟩

theorem State.HandOverFits.single {s : State} (h : s.HandOverFits) : s.HandOverSingle :=
  fun r => ⟨(h r).1, fun hp => (s.handOvers_eq_zero_iff r).1 ((h r).2 hp).2⟩

/-- No request pends for a region that is not HERE. -/
theorem State.HandOverFits.no_request {s : State} (h : s.HandOverFits) {r : Fin 64} (hr : (s.region r).state ≠ .here) :
    (s.region r).pending = none :=
  Option.not_isSome_iff_eq_none.1 fun hp => hr ((h r).2 hp).1

/-! ## Changes that ask for nothing -/

/-- A request pends only where one did, where one still pends HERE is kept, and there are no more hand-over frames than
before. -/
structure State.Eases (s t : State) : Prop where
  request : ∀ r, (t.region r).pending.isSome = true → (s.region r).pending.isSome = true
  here    : ∀ r, (t.region r).pending.isSome = true → (s.region r).state = .here → (t.region r).state = .here
  frames  : ∀ r, t.handOvers r ≤ s.handOvers r

namespace State.Eases

theorem trans {s t u : State} (h : s.Eases t) (k : t.Eases u) : s.Eases u where
  request r hp := h.request r (k.request r hp)
  here r hp hs := k.here r hp (h.here r (k.request r hp) hs)
  frames r := (k.frames r).trans (h.frames r)

theorem of_same {s t : State} (hr : t.regions = s.regions) (hl : t.stream.list = s.stream.list) : s.Eases t where
  request r hp := by rwa [region, hr] at hp
  here r _ hs := by rwa [region, hr]
  frames r := by rw [handOvers, hl]; exact le_rfl

theorem refl (s : State) : s.Eases s := of_same rfl rfl

theorem then_same {s t u : State} (h : s.Eases t) (hr : u.regions = t.regions) (hl : u.stream.list = t.stream.list) :
    s.Eases u := h.trans (of_same hr hl)

/-- With no request pending and an empty list nothing is asked. -/
theorem of_empty {s t : State} (hp : ∀ r, (t.region r).pending = none) (hl : t.stream.list = []) : s.Eases t where
  request r h := by simp [hp r] at h
  here r h := by simp [hp r] at h
  frames r := by simp [handOvers, hl]

/-- Every region's entry still asks for no more than before; the list is the same. -/
theorem of_regions {s t : State}
    (h : ∀ r, (t.region r).pending.isSome = true → (s.region r).pending.isSome = true ∧
      ((s.region r).state = .here → (t.region r).state = .here))
    (hl : t.stream.list = s.stream.list) : s.Eases t where
  request r hp := (h r hp).1
  here r hp := (h r hp).2
  frames r := by rw [handOvers, hl]; exact le_rfl

theorem setRegion {s : State} {r : Fin 64} {e : RegionEntry}
    (h : e.pending.isSome = true → (s.region r).pending.isSome = true ∧ ((s.region r).state = .here → e.state = .here)) :
    s.Eases (s.setRegion r e) := by
  refine of_regions (fun q hq => ?_) rfl
  rw [region_setRegion] at hq ⊢
  split at hq
  next hqr => subst hqr; simpa using h hq
  next hqr => simpa [hqr] using hq

theorem mapRegions {s : State} {f : Fin 64 → RegionEntry → RegionEntry}
    (h : ∀ r, (f r (s.region r)).pending.isSome = true → (s.region r).pending.isSome = true ∧
      ((s.region r).state = .here → (f r (s.region r)).state = .here)) : s.Eases (s.mapRegions f) :=
  of_regions (fun r hr => by rw [region_mapRegions] at hr ⊢; exact h r hr) (by simp)

/-- A frame that hands nothing over joins the list. -/
theorem enqueue (s : State) {c : SeqContent} (hc : ∀ r, c.handsOver r = false) (owner : Option (Fin 32)) :
    s.Eases (s.enqueue c owner) where
  request _ := id
  here _ _ := id
  frames r := by simp [handOvers, State.enqueue, hc]

/-- Frames of the list are changed in all but their contents, or leave it. -/
theorem of_contents {s t : State} (hr : t.regions = s.regions)
    (hl : (t.stream.list.map TxEntry.content).Sublist (s.stream.list.map TxEntry.content)) : s.Eases t where
  request r hp := by rwa [region, hr] at hp
  here r _ hs := by rwa [region, hr]
  frames r := by
    have h := hl.countP_le (p := fun c => c.handsOver r)
    simpa [handOvers, List.countP_map, Function.comp_def] using h

end State.Eases

/-! ## What a part of a step may do -/

/-- The invariant holds after, where it held before. -/
structure State.KeepsHandOver (s t : State) : Prop where
  fits : s.HandOverFits → t.HandOverFits

namespace State.KeepsHandOver

theorem trans {s t u : State} (h : s.KeepsHandOver t) (k : t.KeepsHandOver u) : s.KeepsHandOver u :=
  ⟨k.fits ∘ h.fits⟩

theorem andThen {s t : State} (h : s.KeepsHandOver t) {f : State → State} (hf : t.KeepsHandOver (f t)) :
    s.KeepsHandOver (t.andThen f) := by
  unfold State.andThen
  split
  · exact h
  · exact h.trans hf

end State.KeepsHandOver

theorem State.Eases.keeps {s t : State} (h : s.Eases t) : s.KeepsHandOver t := .mk fun hs r =>
  ⟨(h.frames r).trans (hs r).1, fun hp =>
    have ⟨hhere, hnone⟩ := (hs r).2 (h.request r hp)
    ⟨h.here r hp hhere, Nat.le_zero.1 (hnone ▸ h.frames r)⟩⟩

theorem State.KeepsHandOver.refl (s : State) : s.KeepsHandOver s := ⟨id⟩

theorem State.KeepsHandOver.of_same {s t : State} (hr : t.regions = s.regions) (hl : t.stream.list = s.stream.list) :
    s.KeepsHandOver t := (State.Eases.of_same hr hl).keeps

theorem regionByte_inj {r q : Fin 64} (h : regionByte r = regionByte q) : r = q := by
  have hq := congrArg regionOfByte h
  simpa [regionByte] using hq

/-- A hand-over frame for a region with none outstanding joins the list, and no request pends for that region then; other
regions are as before (R22). -/
theorem State.KeepsHandOver.joins {s t : State} {r : Fin 64} {c : SeqContent} {owner : Option (Fin 32)}
    (ho : s.HandOverFits → s.handOvers r = 0) (hc : ∀ q, q ≠ r → c.handsOver q = false)
    (hl : t.stream.list = (s.enqueue c owner).stream.list) (hp : s.HandOverFits → (t.region r).pending = none)
    (hq : ∀ q, q ≠ r → t.region q = s.region q) : s.KeepsHandOver t := by
  refine ⟨fun hs q => ?_⟩
  have hcount : t.handOvers q = s.handOvers q + if c.handsOver q then 1 else 0 := by
    simp [State.handOvers, hl, State.enqueue, List.countP_cons]
  by_cases hqr : q = r
  · subst hqr
    refine ⟨?_, fun h => by simp [hp hs] at h⟩
    rw [hcount, ho hs]
    split <;> simp
  · rw [hcount, hc q hqr, hq q hqr]
    exact hs q

theorem SeqContent.handsOver_ownReq (r : Fin 64) (g : BitVec 32) (n : Bool) (q : Fin 64) (h : q ≠ r) :
    (SeqContent.ownReq (regionByte r) g n).handsOver q = false := by
  simpa [SeqContent.handsOver] using fun he => h (regionByte_inj he).symm

theorem SeqContent.handsOver_ownGrant (r : Fin 64) (g : BitVec 32) (ws : Option (List Word)) (q : Fin 64) (h : q ≠ r) :
    (SeqContent.ownGrant (regionByte r) g ws).handsOver q = false := by
  simpa [SeqContent.handsOver] using fun he => h (regionByte_inj he).symm

theorem SeqContent.handsOver_ownDeny (r : Fin 64) (d : Byte) (q : Fin 64) (h : q ≠ r) :
    (SeqContent.ownDeny (regionByte r) d).handsOver q = false := by
  simpa [SeqContent.handsOver] using fun he => h (regionByte_inj he).symm

theorem State.region_setRegion_ne (s : State) {r q : Fin 64} (h : q ≠ r) (e : RegionEntry) :
    (s.setRegion r e).region q = s.region q := by
  rw [State.region_setRegion, if_neg h]

/-! ## Entry to FAULTED, denials and the grant step -/

theorem State.enterFaulted_eases (s : State) (code : FaultCode) : s.Eases (s.enterFaulted code) := by
  cases hw : s.working
  · rw [State.enterFaulted_dropped hw]; exact .refl s
  · have hreg (r : Fin 64) : (s.enterFaulted code).region r = (s.region r).stopDeferral := by
      simp [State.region, State.enterFaulted, hw]
    refine .of_regions (fun r hp => ?_) (by simp [State.enterFaulted, hw])
    rw [hreg] at hp ⊢
    simpa [RegionEntry.stopDeferral] using hp

/-- A denial for a region with no frame outstanding and no request pending. -/
theorem State.deny_keeps {s : State} {r : Fin 64} (ho : s.outstanding r = false)
    (hp : s.HandOverFits → (s.region r).pending = none) (d : DenyReason) : s.KeepsHandOver (s.deny r d) :=
  .joins (fun _ => (s.handOvers_eq_zero_iff r).2 ho) (SeqContent.handsOver_ownDeny r _) rfl hp fun _ _ => rfl

theorem State.grantWith_keeps {s : State} {r : Fin 64} (ho : s.HandOverFits → s.handOvers r = 0)
    (content : Option (List Word)) : s.KeepsHandOver (s.grantWith r content) :=
  .joins ho (SeqContent.handsOver_ownGrant r _ _) rfl (fun _ => by simp [State.grantWith]) fun q hq => by
    rw [State.grantWith, State.region_setRegion_ne _ hq]
    rfl

theorem State.grantStep_keeps {s : State} {r : Fin 64} (ho : s.HandOverFits → s.handOvers r = 0) :
    s.KeepsHandOver (s.grantStep r) := by
  unfold State.grantStep
  split
  · split
    · exact State.grantWith_keeps ho _
    · exact (s.enterFaulted_eases _).keeps
  · exact State.grantWith_keeps ho _

/-- The grant due to a pending request finds no frame outstanding. -/
theorem State.grantIfDue_keeps (s : State) (r : Fin 64) : s.KeepsHandOver (s.grantIfDue r) := by
  unfold State.grantIfDue
  split
  next h => exact State.grantStep_keeps fun hs => ((hs r).2 h.2.2.2).2
  next => exact .refl s

end Sys2Proof.Machine
end

section
/-! The parts of a step that commit WRITE commands, run the refresh, take acknowledgements, lose the link or join keep the
hand-over frames single. -/

namespace Sys2Proof.Machine

open State.Eases

/-! ## WRITE commands and the refresh -/

theorem State.writeTakesEffect_eases (s : State) (e : OctEntry) (r : Fin 64) : s.Eases (s.writeTakesEffect e r) :=
  have hlower : s.Eases (s.lowerStaging r) := .setRegion fun h => ⟨h, id⟩
  hlower.then_same (by simp [State.writeTakesEffect]) (by simp [State.writeTakesEffect])

theorem State.writeCompletes_keeps (s : State) (i : Fin 32) (e : OctEntry) (r : Fin 64) (st : Status) (info : Info) :
    s.KeepsHandOver (s.writeCompletes i e r st info) :=
  ((s.writeTakesEffect_eases e r).then_same (by simp) (by simp)).keeps.trans (State.grantIfDue_keeps _ r)

theorem writeBatch_handsOver (fuel : Nat) (r : Fin 64) (offset : Nat) (words : List Word) {c : SeqContent}
    (hc : c ∈ writeBatch fuel r offset words) (q : Fin 64) : c.handsOver q = false := by
  induction fuel generalizing offset words with
  | zero => simp [writeBatch] at hc
  | succ n ih =>
    unfold writeBatch at hc
    split at hc
    · simp at hc
    split at hc
    · rw [List.mem_singleton.1 hc]; rfl
    · rcases List.mem_cons.1 hc with rfl | hc
      · rfl
      · exact ih _ _ hc

theorem State.enqueueBatch_eases (s : State) {frames : List SeqContent} (h : ∀ c ∈ frames, ∀ q, c.handsOver q = false)
    (owner : Option (Fin 32)) : s.Eases (s.enqueueBatch frames owner) := by
  unfold State.enqueueBatch
  induction frames generalizing s with
  | nil => exact refl s
  | cons c l ih =>
    exact (Eases.enqueue s (h c List.mem_cons_self) owner).trans (ih _ fun d hd => h d (List.mem_cons_of_mem _ hd))

theorem State.presentWrite_keeps (s : State) (i : Fin 32) (e : OctEntry) (r : Fin 64) (offset : Nat)
    (words : List Word) (waitRemote : Bool) : s.KeepsHandOver (s.presentWrite i e r offset words waitRemote) := by
  have batch (owner : Option (Fin 32)) : s.Eases
      ((s.enqueueBatch (writeBatch words.length r offset words) owner).apply r offset words .localHost) :=
    (s.enqueueBatch_eases (fun _ => writeBatch_handsOver words.length r offset words) owner).then_same (by simp) (by simp)
  have happly : s.Eases (s.apply r offset words .localHost) := of_same (by simp) (by simp)
  unfold State.presentWrite
  simp only []
  split
  · split
    · exact happly.keeps.trans (State.writeCompletes_keeps ..)
    · exact .of_same rfl rfl
  · split
    · split
      · exact (((batch (some i)).trans (State.writeTakesEffect_eases _ e r)).then_same (by simp) (by simp)).keeps.trans
          (State.grantIfDue_keeps _ r)
      · exact (batch _).keeps.trans (State.writeCompletes_keeps ..)
    · exact .of_same (by simp) (by simp)

theorem State.writeEffect_keeps (s : State) (i : Fin 32) (e : OctEntry) (r : Fin 64) (offset : Nat)
    (source : WriteSource) (waitRemote : Bool) : s.KeepsHandOver (s.writeEffect i e r offset source waitRemote) := by
  have applied (words : List Word) (st : Status) (info : Info) :
      s.KeepsHandOver ((s.apply r offset words .localHost).writeCompletes i e r st info) :=
    (State.KeepsHandOver.of_same (s := s) (t := s.apply r offset words .localHost) rfl rfl).trans
      (State.writeCompletes_keeps ..)
  unfold State.writeEffect
  simp only []
  split
  · exact State.writeCompletes_keeps ..
  split
  · exact State.writeCompletes_keeps ..
  split
  · exact State.writeCompletes_keeps ..
  split
  · exact applied ..
  split
  · exact State.presentWrite_keeps ..
  · exact applied ..

theorem State.presentHeadWrite_keeps_handOver (s : State) : s.KeepsHandOver s.presentHeadWrite := by
  unfold State.presentHeadWrite
  split
  · exact .refl s
  split
  · exact .refl s
  split
  · exact State.presentWrite_keeps ..
  · exact .refl s

theorem State.refreshSearch_eases (s : State) (first : Nat) : s.Eases (s.refreshSearch first) := by
  unfold State.refreshSearch
  split
  · exact of_same rfl rfl
  · exact (of_same (s := s) (t := { s with link.refresh := none }) rfl rfl).trans
      (Eases.enqueue _ (c := .syncDone) (fun _ => rfl) none)

theorem State.refreshStep_eases (s : State) (c : RefreshCursor) : s.Eases (s.refreshStep c).1 := by
  unfold State.refreshStep
  simp only []
  split
  · split
    · exact of_same rfl rfl
    split
    · split
      · exact s.enterFaulted_eases _
      next words _ =>
        have hframe : s.Eases (s.enqueue (refreshFrame c.region c.step words) none) :=
          Eases.enqueue s (fun _ => rfl) none
        split
        · exact hframe.then_same rfl rfl
        · exact hframe.trans (State.refreshSearch_eases _ _)
    · exact of_same rfl rfl
  · exact s.refreshSearch_eases _

theorem State.refreshRun_eases (fuel : Nat) (s : State) : s.Eases (State.refreshRun fuel s) := by
  induction fuel generalizing s with
  | zero => exact refl s
  | succ n ih =>
    unfold State.refreshRun
    split
    · exact refl s
    next c _ =>
      split
      · exact (s.refreshStep_eases c).trans (ih _)
      · exact s.refreshStep_eases c

theorem State.presentNext_fold_keeps (l : List Requester) (s : State) :
    s.KeepsHandOver (l.foldl State.presentNext s) := by
  induction l generalizing s with
  | nil => exact .refl s
  | cons q l ih =>
    have hpresent (t : State) : t.KeepsHandOver (t.presentRequester q) := by
      cases q
      case write => exact t.presentHeadWrite_keeps_handOver
      case refresh => exact (State.refreshRun_eases _ t).keeps
    exact ((State.KeepsHandOver.refl s).andThen (hpresent s)).trans (ih _)

theorem State.presentWaiting_keeps (s : State) : s.KeepsHandOver s.presentWaiting :=
  (State.KeepsHandOver.of_same (t := s.chosen s.waitingRequesters.length) (by simp) (by simp)).trans
    (State.presentNext_fold_keeps _ _)

/-! ## Acknowledgements -/

theorem RegionEntry.withGeneration_pending (e : RegionEntry) (g : BitVec 32) :
    (e.withGeneration g).pending = e.pending := by
  unfold RegionEntry.withGeneration
  split <;> rfl

theorem State.grantAcknowledged_eases (s : State) (r : Fin 64) : s.Eases (s.grantAcknowledged r) := by
  unfold State.grantAcknowledged
  split
  next h =>
    have hset : s.Eases (s.setRegion r { (s.region r).withGeneration (nextGeneration (s.region r).generation) with
        state := .there, releaseEntry := none }) :=
      .setRegion fun hp => ⟨by simpa [RegionEntry.withGeneration_pending] using hp, fun hs => by simp [h] at hs⟩
    simp only []
    split
    · exact hset.then_same (by simp) (by simp)
    · exact hset
  next => exact refl s

theorem State.frameAcknowledged_eases (s : State) (f : TxEntry) : s.Eases (s.frameAcknowledged f) := by
  unfold State.frameAcknowledged
  split
  case h_2 =>
    split
    · exact s.grantAcknowledged_eases _
    · exact refl s
  all_goals
    repeat' split
    all_goals exact of_same (by simp) (by simp)

theorem State.frameAcknowledged_fold_eases (l : List TxEntry) (s : State) :
    s.Eases (l.foldl State.frameAcknowledged s) := by
  induction l generalizing s with
  | nil => exact refl s
  | cons f l ih => exact (s.frameAcknowledged_eases f).trans (ih _)

theorem State.takeAcknowledgement_keeps (s : State) (count : Nat) : s.KeepsHandOver (s.takeAcknowledgement count) := by
  have hdrop : s.Eases { s with stream.list := s.stream.list.drop count } :=
    of_contents rfl ((List.drop_sublist _ _).map _)
  have hfold := hdrop.trans (State.frameAcknowledged_fold_eases (s.stream.list.take count) _)
  unfold State.takeAcknowledgement
  simp only []
  split
  · exact (hfold.then_same (by simp) (by simp)).keeps.trans (State.presentWaiting_keeps _)
  · exact (hfold.then_same (by simp) (by simp)).keeps

theorem State.processAck_keeps (s : State) (n : BitVec 8) : s.KeepsHandOver (s.processAck n) := by
  unfold State.processAck
  simp only []
  repeat' split
  · exact s.takeAcknowledgement_keeps _
  · exact .of_same rfl rfl
  · exact .refl s

/-! ## Losses and joins: no request and no frame is left -/

theorem State.linkLoss_eases (s : State) (reason : LossReason) : s.Eases (s.linkLoss reason) := by
  obtain ⟨_, _, hlist, hpending⟩ := s.linkLoss_leaves reason
  exact of_empty hpending hlist

theorem State.reconcile_region_pending (s : State) (own peer : HelloContent) (r : Fin 64) :
    ((s.reconcile own peer).region r).pending = none := by
  have hregions : (s.reconcile own peer).regions = (s.mapRegions fun r e =>
      e.reconciled (s.ownsAfter own peer r) (largerGeneration own.generations[r] peer.generations[r])).regions := by
    simp [State.reconcile]
  rw [State.region, hregions]
  exact congrArg RegionEntry.pending (State.region_mapRegions s _ r)

theorem State.completeJoin_eases (s : State) (peer : HelloContent) : s.Eases (s.completeJoin peer) := by
  refine State.Eases.trans ?_ (State.refreshRun_eases _ _)
  refine State.Eases.trans ?_ (State.refreshSearch_eases _ _)
  refine of_empty (fun r => ?_) rfl
  exact s.reconcile_region_pending s.fixedContent peer r

end Sys2Proof.Machine
end

section
/-! Every command, and so every step, keeps the hand-over frames single. -/

namespace Sys2Proof.Machine

/-! ## Shared guards -/

theorem State.atHead_keepsHandOver {s : State} {f : Fin 32 → OctEntry → State}
    (h : ∀ i e, s.KeepsHandOver (f i e)) : s.KeepsHandOver (s.atHead f) := by
  unfold State.atHead
  repeat' split
  any_goals exact .refl s
  exact h _ _

theorem State.takeHeld_keepsHandOver {s : State} {α : Type} {kind : Frame → Option α} {f : State → α → State}
    (h : ∀ (t : State) a, t.KeepsHandOver (f t a)) : s.KeepsHandOver (s.takeHeld kind f) := by
  unfold State.takeHeld
  repeat' split
  any_goals exact .refl s
  next rest _ _ _ _ =>
    exact (State.KeepsHandOver.of_same (s := s) (t := { s with framer.heldFrames := rest }) rfl rfl).trans (h _ _)

theorem State.filtered_keepsHandOver {s : State} {epoch : BitVec 16} {f : State → State}
    (h : ∀ t : State, t.KeepsHandOver (f t)) : s.KeepsHandOver (s.filtered epoch f) := by
  unfold State.filtered
  split
  · split
    · exact (State.KeepsHandOver.of_same (s := s) (t := s.restartSilence) rfl rfl).trans (h _)
    · exact .of_same rfl rfl
  · exact .refl s

theorem State.toStream_keepsHandOver {s : State} {epoch : BitVec 16} {f : State → State}
    (h : ∀ t : State, t.KeepsHandOver (f t)) : s.KeepsHandOver (s.toStream epoch f) := by
  refine State.filtered_keepsHandOver fun t => ?_
  split
  · exact h t
  · exact .refl t

theorem State.takeSequenced_keepsHandOver (s : State) (seq acked : BitVec 8) {f : State → State}
    (h : ∀ t : State, t.KeepsHandOver (f t)) : s.KeepsHandOver (s.takeSequenced seq acked f) := by
  refine (s.processAck_keeps acked).andThen (f := fun t =>
    if (seq - t.stream.expected).toNat = 0 then f t.takenInOrder
    else if (seq - t.stream.expected).toNat ≤ 127 then t.raise .outOfOrder
    else { t.raise .duplicates with stream.ackDue := true }) ?_
  generalize s.processAck acked = t
  split
  · exact (State.KeepsHandOver.of_same (s := t) (t := t.takenInOrder) rfl rfl).trans (h _)
  split
  · exact .of_same rfl rfl
  · exact .of_same rfl rfl

theorem State.receiveSequenced_keepsHandOver (s : State) {α : Type} (kind : SeqContent → Option α)
    {dispatch : State → α → State} (h : ∀ (t : State) a, t.KeepsHandOver (dispatch t a)) :
    s.KeepsHandOver (s.receiveSequenced kind dispatch) :=
  State.takeHeld_keepsHandOver fun _ _ => State.toStream_keepsHandOver fun u =>
    u.takeSequenced_keepsHandOver _ _ fun v => h v _

theorem State.onRegion_keepsHandOver {s : State} {region : Byte} {f : Fin 64 → State}
    (h : ∀ r, s.KeepsHandOver (f r)) : s.KeepsHandOver (s.onRegion region f) := by
  unfold State.onRegion
  repeat' split
  any_goals exact .of_same rfl rfl
  exact h _

/-! ## The ownership commands -/

theorem State.claimStarts_keepsHandOver {s : State} {r : Fin 64} (hr : (s.region r).state = .there)
    (ho : s.outstanding r = false) (i : Fin 32) (e : OctEntry) (noWait : Bool) :
    s.KeepsHandOver (s.claimStarts i e r noWait) := by
  have hregions : (s.claimStarts i e r noWait).regions =
      (s.setRegion r { s.region r with state := .claiming, claimEntry := some i }).regions := by
    simp [State.claimStarts, State.setRegion]
  refine .joins (fun _ => (s.handOvers_eq_zero_iff r).2 ho) (SeqContent.handsOver_ownReq r _ noWait)
    (by simp [State.claimStarts]; rfl) (fun hs => ?_) fun q hq => ?_
  · rw [State.region, hregions]
    have hpending := hs.no_request (r := r) (by simp [hr])
    exact (congrArg RegionEntry.pending (State.region_setRegion_self s r _)).trans hpending
  · rw [State.region, hregions]
    exact s.region_setRegion_ne hq _

theorem State.claimEffect_keepsHandOver (s : State) (i : Fin 32) (e : OctEntry) (r : Fin 64) (noWait : Bool) :
    s.KeepsHandOver (s.claimEffect i e r noWait) := by
  have finishes (st : Status) (info : Info) : s.KeepsHandOver (s.finishHead i st info) := .of_same (by simp) (by simp)
  unfold State.claimEffect
  split
  · exact finishes _ _
  split
  · exact finishes _ _
  · exact finishes _ _
  · exact finishes _ _
  next hthere =>
    split
    · exact finishes _ _
    split
    · exact finishes _ _
    split
    · exact finishes _ _
    next ho => exact State.claimStarts_keepsHandOver hthere (Bool.eq_false_iff.2 ho) i e noWait

theorem State.releaseEffect_keepsHandOver (s : State) (i : Fin 32) (e : OctEntry) (r : Fin 64) :
    s.KeepsHandOver (s.releaseEffect i e r) := by
  have finishes (st : Status) (info : Info) : s.KeepsHandOver (s.finishHead i st info) := .of_same (by simp) (by simp)
  have records (t : State) :
      t.KeepsHandOver ((t.setRegion r { t.region r with releaseEntry := some i }).awaitEvent i e) := by
    have hset : t.Eases (t.setRegion r { t.region r with releaseEntry := some i }) := .setRegion fun h => ⟨h, id⟩
    exact (hset.then_same (by simp) (by simp)).keeps
  unfold State.releaseEffect
  split
  · exact finishes _ _
  split
  · exact finishes _ _
  · exact finishes _ _
  · exact finishes _ _
  split
  · exact finishes _ _
  split
  · exact finishes _ _
  split
  · exact finishes _ _
  next ho =>
    exact (State.grantStep_keeps fun _ => (s.handOvers_eq_zero_iff r).2 (Bool.eq_false_iff.2 ho)).andThen (records _)

theorem State.setHeld_eases (s : State) (r : Fin 64) (held : Bool) : s.Eases (s.setHeld r held) :=
  .setRegion fun h => ⟨h, id⟩

theorem State.unholdEffect_keepsHandOver (s : State) (r : Fin 64) : s.KeepsHandOver (s.unholdEffect r) := by
  unfold State.unholdEffect
  split
  · split
    next h =>
      have hgrant : (s.setHeld r false).KeepsHandOver ((s.setHeld r false).grantStep r) :=
        State.grantStep_keeps fun hs => ((hs r).2 (by simpa [State.setHeld] using h.1)).2
      exact (s.setHeld_eases r false).keeps.trans hgrant
    next => exact (s.setHeld_eases r false).keeps
  · exact .refl s

theorem State.holdsAtHead_keepsHandOver (s : State) :
    s.KeepsHandOver s.holdAtHead ∧ s.KeepsHandOver s.unholdAtHead := by
  have finishes (t : State) (i : Fin 32) (st : Status) (info : Info) : t.KeepsHandOver (t.finishHead i st info) :=
    .of_same (by simp) (by simp)
  constructor
  · refine State.atHead_keepsHandOver fun i e => ?_
    repeat' split
    · exact finishes _ _ _ _
    · exact finishes _ _ _ _
    · exact (s.setHeld_eases _ true).keeps.trans (finishes _ _ _ _)
    · exact .refl s
  · refine State.atHead_keepsHandOver fun i e => ?_
    repeat' split
    · exact finishes _ _ _ _
    · exact finishes _ _ _ _
    · exact (s.unholdEffect_keepsHandOver _).andThen (finishes _ _ _ _)
    · exact .refl s

theorem State.setClassEffect_keepsHandOver (s : State) (i : Fin 32) (r : Fin 64) (cls : RegionClass) (here : Bool) :
    s.KeepsHandOver (s.setClassEffect i r cls here) := by
  unfold State.setClassEffect
  split
  · exact .of_same (by simp) (by simp)
  split
  · exact .of_same (by simp) (by simp)
  · have hset : s.Eases (s.setRegion r ((s.region r).reclassed cls here)) :=
      .setRegion fun h => absurd h (by simp [RegionEntry.reclassed])
    exact (hset.then_same (by simp) (by simp)).keeps

/-! ## Received hand-over frames and the deferral timer -/

theorem State.requestInHere_keepsHandOver {s : State} {r : Fin 64} (hr : (s.region r).state = .here)
    (generation : BitVec 32) (noWait : Bool) : s.KeepsHandOver (s.requestInHere r generation noWait) := by
  unfold State.requestInHere
  simp only []
  split
  · exact .of_same rfl rfl
  next ho =>
    have ho' := Bool.eq_false_iff.2 ho
    have hzero := (s.handOvers_eq_zero_iff r).2 ho'
    split
    · exact .of_same rfl rfl
    next hp =>
      have denies (d : DenyReason) : s.KeepsHandOver (s.deny r d) :=
        State.deny_keeps ho' (fun _ => Option.not_isSome_iff_eq_none.1 hp) d
      split
      · exact State.KeepsHandOver.trans (.of_same (by simp) (by simp))
          (State.deny_keeps (s := s.protocolError .reqGeneration (some (regionByte r))) ho'
            (fun _ => Option.not_isSome_iff_eq_none.1 hp) _)
      split
      · exact denies _
      split
      · exact State.grantStep_keeps fun _ => hzero
      split
      · exact denies _
      split
      · exact denies _
      · refine ⟨fun hs q => ?_⟩
        rw [State.region_setRegion]
        split
        next hq => subst hq; exact ⟨(hs q).1, fun _ => ⟨hr, hzero⟩⟩
        next => exact hs q

theorem State.takeRequest_keepsHandOver (s : State) (r : Fin 64) (generation : BitVec 32) (noWait : Bool) :
    s.KeepsHandOver (s.takeRequest r generation noWait) := by
  unfold State.takeRequest
  split
  next h => exact State.requestInHere_keepsHandOver h generation noWait
  next h =>
    split
    · exact .of_same rfl rfl
    next ho => exact State.deny_keeps (Bool.eq_false_iff.2 ho) (fun hs => hs.no_request (by simp [h])) _
  next h =>
    have herror : s.KeepsHandOver (s.protocolError .reqInClaiming (some (regionByte r))) := .of_same rfl rfl
    have haway : ((s.protocolError .reqInClaiming (some (regionByte r))).region r).state ≠ .here := fun hhere =>
      absurd (h.symm.trans hhere) (by decide)
    simp only []
    split
    · exact .of_same rfl rfl
    next ho =>
      exact herror.trans (State.deny_keeps (s := s.protocolError .reqInClaiming (some (regionByte r)))
        (Bool.eq_false_iff.2 ho) (fun hs => hs.no_request haway) _)
  · exact .refl s

theorem State.grantArrives_eases (s : State) (r : Fin 64) (content : Option (List Word)) :
    s.Eases (s.grantArrives r content) := by
  have arrives (t : State) (hr : t.regions = s.regions) (hl : t.stream.list = s.stream.list) : s.Eases (t.setRegion r
      { (s.region r).withGeneration (nextGeneration (s.region r).generation) with
        state := .here, stale := false, claimEntry := none }) := by
    refine (State.Eases.of_same hr hl).trans (.setRegion fun hp => ⟨?_, fun _ => rfl⟩)
    simpa [State.region, hr, RegionEntry.withGeneration_pending] using hp
  unfold State.grantArrives
  split
  · exact arrives (s.apply r 0 _ .peer) rfl rfl
  · exact arrives s rfl rfl

theorem State.takeGrant_keepsHandOver (s : State) (r : Fin 64) (generation : BitVec 32)
    (content : Option (List Word)) : s.KeepsHandOver (s.takeGrant r generation content) := by
  have harrives := s.grantArrives_eases r content
  unfold State.takeGrant State.grantAnswersClaim
  simp only []
  split
  · exact .of_same rfl rfl
  split
  · exact .of_same rfl rfl
  split
  · exact .of_same rfl rfl
  split
  · split
    · exact (harrives.then_same (by simp) (by simp)).keeps
    · exact harrives.keeps
  · exact (harrives.then_same (by simp) (by simp)).keeps

theorem State.takeDeny_keepsHandOver (s : State) (r : Fin 64) (reason : Byte) :
    s.KeepsHandOver (s.takeDeny r reason) := by
  unfold State.takeDeny
  split
  next h =>
    have hset : s.Eases (s.setRegion r { s.region r with state := .there, claimEntry := none }) :=
      .setRegion fun hp => ⟨hp, fun hs => by simp [h] at hs⟩
    simp only []
    split
    · exact (hset.then_same (by simp) (by simp)).keeps
    · exact hset.keeps
  next => exact .refl s

/-- The request whose timer expires had no hand-over frame beside it, and is gone when its denial joins the list. -/
theorem State.deferralExpires_keepsHandOver (s : State) (r : Fin 64) : s.KeepsHandOver (s.deferralExpires r) := by
  unfold State.deferralExpires
  split
  next hp =>
    refine .joins (fun hs => ((hs r).2 (by simp [hp])).2) (SeqContent.handsOver_ownDeny r _) rfl (fun _ => ?_)
      fun q hq => ?_
    · exact congrArg RegionEntry.pending (State.region_setRegion_self _ r _)
    · exact State.region_setRegion_ne _ hq _
  next => exact .refl s

theorem State.takeUpdate_keepsHandOver (s : State) (u : ReceivedUpdate) : s.KeepsHandOver (s.takeUpdate u) := by
  refine State.onRegion_keepsHandOver fun r => ?_
  have hupdate : s.Eases (s.applyUpdate r u) := by
    unfold State.applyUpdate
    simp only []
    split
    · exact (State.Eases.of_same (s := s) (t := s.apply r u.offset.toNat u.words .peer) rfl rfl).trans
        (.setRegion fun h => ⟨h, id⟩)
    · exact .of_same rfl rfl
  repeat' split
  any_goals exact .of_same rfl rfl
  exact hupdate.keeps

theorem State.takeSnapshot_keepsHandOver (s : State) (region : Byte) (sweep : BitVec 16) (generation : BitVec 32)
    (words : List Word) : s.KeepsHandOver (s.takeSnapshot region sweep generation words) := by
  have happly (r : Fin 64) : s.Eases (s.applySnapshot r sweep words) := by
    have hset : s.Eases ((s.apply r 0 words .peer).setRegion r
        { s.region r with lastSweep := some sweep, age := 0, stale := false }) :=
      (State.Eases.of_same (s := s) (t := s.apply r 0 words .peer) rfl rfl).trans (.setRegion fun h => ⟨h, id⟩)
    unfold State.applySnapshot
    simp only []
    split
    · exact hset.then_same rfl rfl
    · exact hset
  unfold State.takeSnapshot
  repeat' split
  any_goals exact .of_same rfl rfl
  exact (happly _).keeps

/-! ## HELLO and the timers -/

theorem State.takeHelloFrame_keepsHandOver (s : State) (epoch : BitVec 16) (b : HelloBody) :
    s.KeepsHandOver (s.takeHelloFrame epoch b) := by
  have seeking (t : State) : t.KeepsHandOver (t.helloInSeeking epoch b) := by
    unfold State.helloInSeeking
    split <;> exact .of_same rfl rfl
  have session : s.KeepsHandOver (s.helloInSession epoch b) := by
    unfold State.helloInSession State.confirmAgain
    split
    · repeat' split
      all_goals exact .of_same rfl rfl
    · exact (s.linkLoss_eases _).keeps.andThen (seeking _)
  have joins (t : State) (hr : t.regions = s.regions) (hl : t.stream.list = s.stream.list) (c : HelloContent) :
      s.KeepsHandOver (t.completeJoin c) :=
    (State.KeepsHandOver.of_same hr hl).trans (t.completeJoin_eases c).keeps
  have joining : s.KeepsHandOver (s.helloInJoining epoch b) := by
    unfold State.helloInJoining
    simp only []
    split
    · split
      · exact joins _ (by simp) (by simp) _
      · exact .of_same rfl rfl
    split
    · exact .of_same rfl rfl
    · exact .of_same rfl rfl
  unfold State.takeHelloFrame
  split
  · exact seeking s
  · exact joining
  · exact session
  · exact session
  · exact .refl s
  · exact .refl s

theorem TxEntry.again_content (t : TxEntry) : t.again.content = t.content := by
  unfold TxEntry.again
  split <;> rfl

theorem State.retransmissionExpires_eases (s : State) : s.Eases s.retransmissionExpires := by
  unfold State.retransmissionExpires
  simp only []
  split
  · exact .refl s
  split
  · exact (State.Eases.of_same (s := s) (t := s.raise .retransmitRounds) rfl rfl).trans (State.linkLoss_eases _ _)
  · refine .of_contents rfl ?_
    simp [Function.comp_def, TxEntry.again_content]

theorem RegionEntry.aged_request (limit : Nat) (e : RegionEntry) :
    (e.aged limit).pending = e.pending ∧ (e.aged limit).state = e.state := by
  unfold RegionEntry.aged
  split <;> exact ⟨rfl, rfl⟩

theorem State.sweepExpires_eases (s : State) : s.Eases s.sweepExpires := by
  unfold State.sweepExpires
  split
  · exact .refl s
  · simp only []
    refine State.Eases.then_same (t := ({ s with sweep.timer := some s.params.sweepPeriod }.sweepTick).mapRegions
      fun _ e => e.aged s.params.staleLimit) ?_ (by simp) (by simp)
    refine State.Eases.trans (.of_same (by simp) (by simp)) (.mapRegions fun r hp => ?_)
    obtain ⟨hpending, hstate⟩ := RegionEntry.aged_request s.params.staleLimit
      ({ s with sweep.timer := some s.params.sweepPeriod }.sweepTick.region r)
    rw [hpending] at hp
    exact ⟨hp, fun hs => hstate.trans hs⟩

theorem State.takeFrame_eases (s : State) : s.Eases s.takeFrame := by
  have listed (t : State) (k : Nat) : t.Eases (t.takeListed k) := by
    unfold State.takeListed
    split
    next x hx =>
      refine .of_contents rfl ?_
      obtain ⟨hk, hget⟩ := List.getElem?_eq_some_iff.1 hx
      have hcontent : x.content = (t.stream.list.map TxEntry.content)[k]'(by simpa using hk) := by simp [hget]
      have hmap : (t.stream.list.set k { x with sent := true, resend := false }).map TxEntry.content =
          t.stream.list.map TxEntry.content := by
        rw [List.map_set, hcontent, List.set_getElem_self]
      exact hmap ▸ List.Sublist.refl _
    next => exact .refl t
  have chosen (t : State) (c : FrameChoice) : t.Eases (t.takeChoice c) := by
    cases c
    case sequenced k => exact listed t k
    case snapshot r =>
      simp only [State.takeChoice, State.sendSnapshot]
      split
      · exact t.enterFaulted_eases _
      · exact .of_same (by simp) (by simp)
    all_goals
      simp only [State.takeChoice, State.takeBye, State.takeHello, State.takeAck]
      repeat' split
      all_goals exact .of_same (by simp) (by simp)
  have hsettle : s.Eases s.settleOffer := .of_same (by simp) (by simp)
  unfold State.takeFrame
  split
  · exact .refl s
  split
  · exact hsettle.trans (chosen _ _)
  · exact hsettle

end Sys2Proof.Machine
end

section
/-! Resets, control writes, transfers and the setup load keep the hand-over frames single; so does every step. -/

namespace Sys2Proof.Machine

/-! ## Ends of transfers, POST writes and admission -/

theorem State.abortEntry_eases (s : State) (i : Fin 32) : s.Eases (s.abortEntry i) := by
  have gives (e : OctEntry) : s.Eases (s.giveUp e) := by
    unfold State.giveUp
    repeat' split
    · exact s.writeTakesEffect_eases e _
    all_goals exact .of_same (by simp) (by simp)
  unfold State.abortEntry
  split
  · exact .refl s
  next e _ => exact (gives e).then_same (by simp) (by simp)

theorem State.abortAll_eases (s : State) : s.Eases s.abortAll := by
  unfold State.abortAll
  induction List.finRange 32 generalizing s with
  | nil => exact .refl s
  | cons i l ih =>
    have hidle : s.Eases (s.abortIdle i) := by
      unfold State.abortIdle
      repeat' split
      any_goals exact .refl s
      exact s.abortEntry_eases i
    exact hidle.trans (ih _)

theorem State.stagingEnds_keepsHandOver (s : State) (j : Fin 8) (result : Option (List FoundByte)) :
    s.KeepsHandOver (s.stagingEnds j result) := by
  have resumes (t : State) (i : Fin 32) : t.KeepsHandOver (t.writeResumes i) := by
    unfold State.writeResumes
    repeat' split
    any_goals exact .refl t
    exact t.writeEffect_keeps ..
  unfold State.stagingEnds
  split
  · exact .refl s
  split
  · exact .refl s
  split
  · exact .refl s
  split
  · exact State.KeepsHandOver.trans (.of_same (by simp) (by simp)) (resumes _ _)
  · exact (s.abortEntry_eases _).keeps
  · exact .refl s

/-- The bytes of an output transfer that ends without error go to host memory (R130, R133). -/
theorem State.outputWritten_eases (s : State) (ok : Bool) (a : Addr) (d : List Byte) :
    s.Eases (if ok then s.hostWritten a d else s) := by
  split
  · exact .of_same (by simp) (by simp)
  · exact .refl s

theorem State.readOutputEnds_eases (s : State) (j : Fin 4) (ok : Bool) : s.Eases (s.readOutputEnds j ok) := by
  unfold State.readOutputEnds
  split
  · exact .refl s
  split
  next c e _ _ =>
    have hwritten := s.outputWritten_eases ok e.command.bufferAddr (wordBytes c.words)
    simp only []
    split
    · exact hwritten.then_same (by simp) (by simp)
    · exact hwritten.trans (State.abortEntry_eases _ _)
    · exact .refl s
  · exact .refl s

theorem State.statsOutputEnds_eases (s : State) (ok : Bool) : s.Eases (s.statsOutputEnds ok) := by
  unfold State.statsOutputEnds
  split
  next copy i _ _ _ =>
    split
    · exact .refl s
    split
    next addr _ _ =>
      have hwritten := s.outputWritten_eases ok addr (statsBytes copy)
      split
      · simp only []
        split
        · exact hwritten.then_same (by simp) (by simp)
        · exact hwritten.trans (State.abortEntry_eases _ _)
        · exact .refl s
      · exact .refl s
    next => exact .refl s
  next => exact .refl s

theorem State.fetchEnds_eases (s : State) (ring : Ring) (result : Option (Vector FoundByte 32)) :
    s.Eases (s.fetchEnds ring result) := by
  have hfetch (v : SubRing) : s.Eases (s.setSubRing ring v) := .of_same (by simp) (by simp)
  unfold State.fetchEnds
  simp only []
  split
  · split
    · split
      · exact hfetch _
      · exact (hfetch _).trans (State.enterFaulted_eases _ _)
    · exact hfetch _
    · exact .refl s
  · exact .refl s

theorem State.postWrite_eases (s : State) (selector index : Nat) : s.Eases (s.postWrite selector index) := by
  unfold State.postWrite State.postProducer State.postConsumer State.postNotify
  simp only []
  repeat' split
  any_goals exact s.enterFaulted_eases _
  all_goals exact .of_same (by simp) (by simp)

/-- Of the regions an admission changes the staging count of a WRITE's only (R29, R117). -/
theorem State.enrol_regions (s : State) (i : Fin 32) (ring : Ring) (tag : BitVec 16) (c : Command) :
    (s.enrol i ring tag c).regions = (s.raiseStaging c).regions := by
  simp only [State.enrol, (State.takeBuffer_frame _ _ _).2.1, (State.takeStaging_frame _ _ _ _).2.1]
  unfold State.raiseStaging
  split <;> rfl

theorem State.presentRecord_eases (s : State) : s.Eases s.presentRecord := by
  have raises (t : State) (c : Command) : t.Eases (t.raiseStaging c) := by
    unfold State.raiseStaging
    split
    · exact .setRegion fun h => ⟨h, id⟩
    · exact .refl t
  have enrols (t : State) (i : Fin 32) (ring : Ring) (tag : BitVec 16) (c : Command) :
      t.Eases (t.enrol i ring tag c) := by
    exact (raises t c).then_same (t.enrol_regions i ring tag c) (by simp)
  have takes (ring : Ring) : s.Eases (s.takeRecord ring) := .of_same (by simp) (by simp)
  have presents (ring : Ring) (bytes : List Byte) : s.Eases (s.presentHead ring bytes) := by
    unfold State.presentHead State.admitOrWait
    repeat' split
    any_goals exact (takes ring).trans (enrols _ _ _ _ _)
    all_goals exact .of_same (by simp) (by simp)
  unfold State.presentRecord
  repeat' split
  any_goals exact .refl s
  exact presents _ _

/-! ## Commands that set the device state -/

theorem State.reset_region (r : Fin 64) : (State.reset.region r).pending = none := by
  simp [State.region, State.reset, RegionEntry.reset]

theorem State.resetWritten_eases (s : State) : s.Eases s.resetWritten := by
  unfold State.resetWritten
  split
  · exact .of_same rfl rfl
  · exact .of_empty State.reset_region rfl

theorem State.released_eases (s : State) : s.Eases s.released := by
  unfold State.released
  split
  · exact .of_empty State.reset_region rfl
  · exact .refl s

theorem State.clearFaultWritten_eases (s : State) : s.Eases s.clearFaultWritten := by
  unfold State.clearFaultWritten
  split
  · constructor
    case frames => intro r; simp [State.handOvers, StreamBlock.reset]
    all_goals
      intro r
      simp [State.region, RegionEntry.faultCleared]
  · exact .of_same rfl rfl

theorem State.startWritten_eases (s : State) : s.Eases s.startWritten := by
  unfold State.startWritten
  simp only []
  repeat' split
  all_goals exact .of_same rfl rfl

theorem State.stopWritten_eases (s : State) : s.Eases s.stopWritten := by
  have reports (t : State) : t.Eases t.ringsReport ∧ t.Eases t.notifyReport := by
    unfold State.ringsReport State.notifyReport
    constructor
    all_goals split <;> exact .of_same (by simp) (by simp)
  have stops (t : State) : t.Eases t.stopLink := by
    unfold State.stopLink
    split
    · exact .refl t
    · exact .of_same rfl rfl
    · exact t.linkLoss_eases _
  rw [State.stopWritten_eq]
  split
  · have hstop : s.Eases s.stopAccepted.stopLink.stopAdmission :=
      ((State.Eases.of_same (s := s) (t := s.stopAccepted) rfl rfl).trans (stops _)).then_same rfl rfl
    exact ((hstop.trans (State.abortAll_eases _)).trans (reports _).1).trans (reports _).2
  · exact .of_same rfl rfl

theorem State.setupEnds_eases (s : State) (result : Option (Vector FoundByte 128)) : s.Eases (s.setupEnds result) := by
  have loads (p : SetupParams) : s.Eases (s.loadSetup p) := by
    refine .of_empty (fun r => ?_) ?_
    · unfold State.loadSetup
      simp only []
      split <;> simp [State.region, State.enterSeeking, State.restartHello, State.handSeekingHello, State.handHello,
        RegionEntry.loaded, RegionEntry.reset]
    · unfold State.loadSetup
      simp only []
      split <;> rfl
  unfold State.setupEnds
  repeat' split
  any_goals exact .of_same rfl rfl
  exact loads _

theorem State.controlWrite_eases (s : State) (code : Nat) : s.Eases (s.controlWrite code) := by
  unfold State.controlWrite
  split
  · exact s.startWritten_eases
  · exact s.stopWritten_eases
  · exact s.resetWritten_eases
  · exact s.clearFaultWritten_eases
  · exact .of_same rfl rfl

theorem State.writeWindow_eases (s : State) (offset : Nat) (data : List Byte) : s.Eases (s.writeWindow offset data) := by
  have register (t : State) (o : Nat) (value : Word) : t.Eases (t.writeRegister o value) := by
    unfold State.writeRegister
    split
    · exact t.controlWrite_eases _
    · exact .of_same rfl rfl
    · exact .of_same rfl rfl
    · exact t.postWrite_eases _ _
    · exact .refl t
  unfold State.writeWindow
  induction wholeWords offset data generalizing s with
  | nil => exact .refl s
  | cons x l ih => exact (register s x.1 x.2).trans (ih _)

/-! ## Received frames -/

theorem State.helloReceived_keepsHandOver (s : State) : s.KeepsHandOver (s.effect .helloReceived) := by
  simp only [State.effect]
  exact State.takeHeld_keepsHandOver fun t x => t.takeHelloFrame_keepsHandOver _ _

/-- The sequenced frames: what each kind dispatches keeps the hand-over frames single. -/
theorem State.sequencedReceived_keepsHandOver (s : State) :
    s.KeepsHandOver (s.effect .updateReceived) ∧ s.KeepsHandOver (s.effect .ownReqReceived) ∧
    s.KeepsHandOver (s.effect .ownGrantReceived) ∧ s.KeepsHandOver (s.effect .ownDenyReceived) ∧
    s.KeepsHandOver (s.effect .syncDoneReceived) := by
  have sync (t : State) : t.KeepsHandOver t.takeSync := by
    unfold State.takeSync
    repeat' split
    all_goals exact .of_same (by simp) (by simp)
  simp only [State.effect]
  exact ⟨s.receiveSequenced_keepsHandOver _ State.takeUpdate_keepsHandOver,
    s.receiveSequenced_keepsHandOver _ fun t _ => State.onRegion_keepsHandOver fun r =>
      t.takeRequest_keepsHandOver r _ _,
    s.receiveSequenced_keepsHandOver _ fun t _ => State.onRegion_keepsHandOver fun r =>
      t.takeGrant_keepsHandOver r _ _,
    s.receiveSequenced_keepsHandOver _ fun t _ => State.onRegion_keepsHandOver fun r => t.takeDeny_keepsHandOver r _,
    s.receiveSequenced_keepsHandOver _ fun t _ => sync t⟩

/-- The frames outside the sequence. -/
theorem State.plainReceived_keepsHandOver (s : State) :
    s.KeepsHandOver (s.effect .ackReceived) ∧ s.KeepsHandOver (s.effect .snapshotReceived) ∧
    s.KeepsHandOver (s.effect .idleReceived) ∧ s.KeepsHandOver (s.effect .byeReceived) := by
  simp only [State.effect]
  exact ⟨State.takeHeld_keepsHandOver fun t x => State.toStream_keepsHandOver fun u => u.processAck_keeps _,
    State.takeHeld_keepsHandOver fun t x => State.toStream_keepsHandOver fun u =>
      u.takeSnapshot_keepsHandOver _ _ _ _,
    State.takeHeld_keepsHandOver fun t x => State.filtered_keepsHandOver fun u => .refl u,
    State.takeHeld_keepsHandOver fun t x => State.filtered_keepsHandOver fun u => (u.linkLoss_eases _).keeps⟩

/-! ## Every command, and the step -/

theorem State.linkAtHead_keepsHandOver (s : State) :
    s.KeepsHandOver s.linkUpAtHead ∧ s.KeepsHandOver s.linkDownAtHead := by
  have down : s.Eases s.linkDownEffect := by
    unfold State.linkDownEffect
    split
    · exact .refl s
    · exact .of_same rfl rfl
    · exact s.linkLoss_eases _
  constructor
  · refine State.atHead_keepsHandOver fun i e => ?_
    repeat' split
    all_goals exact .of_same (by simp) (by simp)
  · refine State.atHead_keepsHandOver fun i e => ?_
    split
    · exact (down.then_same (by simp) (by simp)).keeps
    · exact .refl s

theorem State.readAtHead_keepsHandOver (s : State) : s.KeepsHandOver s.readAtHead := by
  refine State.atHead_keepsHandOver fun i e => ?_
  repeat' split
  any_goals exact (s.enterFaulted_eases _).keeps
  all_goals exact .of_same (by simp) (by simp)

theorem State.effect_keepsHandOver (s : State) (c : Instr) : s.KeepsHandOver (s.effect c) := by
  cases c
  case coldReset => exact .of_same rfl rfl
  case perstNRelease => exact s.released_eases.keeps
  case initDone =>
    simp only [State.effect, State.initEnds]
    split <;> exact .of_same rfl rfl
  case start => exact s.startWritten_eases.keeps
  case stop => exact s.stopWritten_eases.keeps
  case reset => exact s.resetWritten_eases.keeps
  case clearFault => exact s.clearFaultWritten_eases.keeps
  case controlInvalidCode => exact (s.controlWrite_eases _).keeps
  case registerWrite => exact (s.writeWindow_eases _ _).keeps
  case producerIndexPost | completionConsumerPost | notificationConsumerPost | badPostSelector =>
    simp only [State.effect]
    exact (s.postWrite_eases _ _).keeps
  case setupReadDone => exact (s.setupEnds_eases _).keeps
  case recordFetchDone => exact (s.fetchEnds_eases _ _).keeps
  case recordPresentation => exact s.presentRecord_eases.keeps
  case nop | fence | stats | queryRegion | watchSet | watchClear =>
    refine State.atHead_keepsHandOver fun i e => ?_
    repeat' split
    all_goals exact .of_same (by simp) (by simp)
  case write =>
    refine State.atHead_keepsHandOver fun i e => ?_
    split
    · split
      · exact .of_same rfl rfl
      · exact s.writeEffect_keeps ..
    · exact .refl s
  case read => exact s.readAtHead_keepsHandOver
  case claim =>
    refine State.atHead_keepsHandOver fun i e => ?_
    split
    · exact s.claimEffect_keepsHandOver ..
    · exact .refl s
  case release =>
    refine State.atHead_keepsHandOver fun i e => ?_
    split
    · exact s.releaseEffect_keepsHandOver ..
    · exact .refl s
  case hold => exact s.holdsAtHead_keepsHandOver.1
  case unhold => exact s.holdsAtHead_keepsHandOver.2
  case setClass =>
    refine State.atHead_keepsHandOver fun i e => ?_
    split
    · exact s.setClassEffect_keepsHandOver ..
    · exact .refl s
  case linkUp => exact s.linkAtHead_keepsHandOver.1
  case linkDown => exact s.linkAtHead_keepsHandOver.2
  case stagingTransferDone => exact s.stagingEnds_keepsHandOver _ _
  case readOutputDone => exact (s.readOutputEnds_eases _ _).keeps
  case statsOutputDone => exact (s.statsOutputEnds_eases _).keeps
  case completionWriteDone | notificationWriteDone =>
    simp only [State.effect, State.completionWriteEnds, State.notifyWriteEnds]
    repeat' split
    any_goals exact (s.enterFaulted_eases _).keeps
    all_goals exact .of_same (by simp) (by simp)
  case frameTake => exact s.takeFrame_eases.keeps
  case helloTimerExpiry =>
    simp only [State.effect, State.helloExpires]
    split <;> exact .of_same rfl rfl
  case transmitEnd | quietTimerExpiry | linkActTimeout | startDelimiter | receiveFrameEnd | dataByte | codeError =>
    simp only [State.effect, State.transmitEnds, State.quietExpires, State.linkActFalls, State.frameEnds,
      State.frameBegins, State.collecting]
    repeat' split
    all_goals exact .of_same (by simp) (by simp)
  case helloReceived => exact s.helloReceived_keepsHandOver
  case updateReceived => exact s.sequencedReceived_keepsHandOver.1
  case ownReqReceived => exact s.sequencedReceived_keepsHandOver.2.1
  case ownGrantReceived => exact s.sequencedReceived_keepsHandOver.2.2.1
  case ownDenyReceived => exact s.sequencedReceived_keepsHandOver.2.2.2.1
  case syncDoneReceived => exact s.sequencedReceived_keepsHandOver.2.2.2.2
  case ackReceived => exact s.plainReceived_keepsHandOver.1
  case snapshotReceived => exact s.plainReceived_keepsHandOver.2.1
  case idleReceived => exact s.plainReceived_keepsHandOver.2.2.1
  case byeReceived => exact s.plainReceived_keepsHandOver.2.2.2
  case retransmissionTimerExpiry => exact s.retransmissionExpires_eases.keeps
  case deferralTimerExpiry => exact s.deferralExpires_keepsHandOver _
  case sweepTimerExpiry => exact s.sweepExpires_eases.keeps
  case silenceTimerExpiry =>
    simp only [State.effect, State.silenceExpires]
    split
    · exact (s.linkLoss_eases _).keeps
    · exact .refl s
  case watchEvaluation => exact .of_same (by simp [State.effect]) (by simp [State.effect])
  case notificationTake => exact .of_same (by simp [State.effect]) (by simp [State.effect])
  case ringManagerStopReport | notificationStopReport =>
    simp only [State.effect, State.ringsReport, State.notifyReport]
    split <;> exact .of_same (by simp) (by simp)

theorem step_keepsHandOver {s t : State} (h : step s = .next t) : s.KeepsHandOver t := by
  rcases step_cases h with rfl | ⟨c, rest, u, hu, ht⟩
  · exact .refl _
  · have hrest : s.KeepsHandOver u := by subst hu; exact .of_same rfl rfl
    rcases ht with ⟨_, rfl⟩ | rfl | rfl | rfl
    · exact hrest.trans (u.effect_keepsHandOver c)
    · exact hrest
    · exact hrest.trans (.of_same rfl rfl)
    · exact hrest.trans u.released_eases.keeps

/-- Settles O58: a hand-over frame joins the list only for a region with none outstanding and no request pending, and a
request comes to pend only for a region in HERE with none outstanding. -/
theorem stepKeepsHandOverSingle : Obligations.StepKeepsHandOverSingle := by
  unfold Obligations.StepKeepsHandOverSingle
  intro s t hflags hsingle h
  exact ((step_keepsHandOver h).fits (State.handOverFits_of_single hflags hsingle)).single

end Sys2Proof.Machine
end

section
/-! The presentation of a record (R146, R148): the parts of a take and of an admission, and the conditions that decide. -/

namespace Sys2Proof.Machine

/-! ## Free places (R149) -/

theorem firstFree_eq_none_iff {α : Type} {n : Nat} (v : Vector (Option α) n) :
    firstFree v = none ↔ ∀ i : Fin n, v[i] ≠ none := by
  simp [firstFree, List.find?_eq_none, Option.ne_none_iff_isSome]

theorem firstFree_eq_some_iff {α : Type} {n : Nat} (v : Vector (Option α) n) (i : Fin n) :
    firstFree v = some i ↔ v[i] = none ∧ ∀ k < i, v[k] ≠ none := by
  refine ⟨fun h => firstFree_spec h, fun ⟨hi, hbefore⟩ => ?_⟩
  cases hv : firstFree v with
  | none => exact absurd hi ((firstFree_eq_none_iff v).1 hv i)
  | some j =>
    obtain ⟨hj, hfirst⟩ := firstFree_spec hv
    rcases lt_trichotomy i j with hij | rfl | hji
    · exact absurd hi (hfirst i hij)
    · rfl
    · exact absurd hj (hbefore j hji)

theorem Command.needsStaging_iff (c : Command) : c.needsStaging = true ↔
    ∃ r offset count addr waitRemote, c = .write r offset count (.buffer addr) waitRemote := by
  cases c
  case write r offset count source waitRemote => cases source <;> simp [Command.needsStaging]
  all_goals simp [Command.needsStaging]

theorem Command.needsBuffer_iff (c : Command) :
    c.needsBuffer = true ↔ ∃ r offset count addr, c = .read r offset count addr := by
  cases c <;> simp [Command.needsBuffer]

/-! ## The take (R139, R145, R148) -/

/-- The slot that a ring's head has once its record is taken (R138, R139). -/
def State.fetchAfter (s : State) (ring : Ring) : Nat := ((s.subRing ring).fetch + 1) % s.ringSize ring

/-- The fetch of the next record begins with the take of a ring's head: it is pending, and no fetch is in progress
(R145). -/
abbrev State.fetchesNext (s : State) (ring : Ring) : Prop :=
  (s.subRing ring).fetching = false ∧
    0 < ringDistance (s.subRing ring).producer (s.fetchAfter ring) (s.ringSize ring)

/-- A ring's view once its record is taken (R139, R145). -/
def State.ringAfterTake (s : State) (ring : Ring) : SubRing :=
  { s.subRing ring with
    copy := none, fetch := s.fetchAfter ring, fetching := (s.subRing ring).fetching || decide (s.fetchesNext ring) }

/-- The read that a take begins (R145). -/
def State.nextRead (s : State) (ring : Ring) : List Emission :=
  if s.fetchesNext ring then [.hostRead (s.ringBase ring + BitVec.ofNat 64 (32 * s.fetchAfter ring)) 32] else []

/-- The urgent run count after a take (R148). -/
def State.urgentRunNext (s : State) (ring : Ring) : Nat :=
  match ring with
  | .normal => 0
  | .urgent => if 0 < s.pendingCount .normal then min (s.rings.urgentRun + 1) 8 else 0

/-- A ring's head has been taken, and no fetch has begun yet (R139, R146, R148). -/
def State.headTaken (s : State) (ring : Ring) : State :=
  { s.setSubRing ring { s.subRing ring with copy := none, fetch := s.fetchAfter ring } with
    rings.reserved := s.rings.reserved + 1
    rings.urgentRun := s.urgentRunNext ring }

theorem State.takeRecord_headTaken (s : State) (ring : Ring) : s.takeRecord ring = (s.headTaken ring).beginFetch ring := by
  cases ring <;> rfl

@[simp] theorem State.headTaken_subRing (s : State) (ring q : Ring) :
    (s.headTaken ring).subRing q =
      if q = ring then { s.subRing ring with copy := none, fetch := s.fetchAfter ring } else s.subRing q := by
  cases ring <;> cases q <;> rfl

@[simp] theorem State.headTaken_params (s : State) (ring q : Ring) :
    (s.headTaken ring).ringSize q = s.ringSize q ∧ (s.headTaken ring).ringBase q = s.ringBase q := by
  cases ring <;> cases q <;> exact ⟨rfl, rfl⟩

/-- What a take leaves behind: the ring's view, the reservation, the run count and the read it begins. -/
theorem State.takeRecord_eq {s : State} (h : s.dev.state = .running) (ring : Ring) :
    s.takeRecord ring = { s.setSubRing ring (s.ringAfterTake ring) with
      rings.reserved := s.rings.reserved + 1
      rings.urgentRun := s.urgentRunNext ring
      emitted := s.nextRead ring ++ s.emitted } := by
  have hrun : (s.headTaken ring).dev.state = .running := by cases ring <;> exact h
  have hbegins : ((s.headTaken ring).dev.state = .running ∧ 0 < (s.headTaken ring).pendingCount ring ∧
      ((s.headTaken ring).subRing ring).copy = none ∧ ((s.headTaken ring).subRing ring).fetching = false) ↔
      s.fetchesNext ring := by
    simp [hrun, State.pendingCount, and_comm]
  rw [State.takeRecord_headTaken]
  unfold State.beginFetch State.ringAfterTake State.nextRead
  by_cases hb : s.fetchesNext ring
  · rw [if_pos (hbegins.2 hb), if_pos hb]
    simp only [State.headTaken_subRing, if_true, (s.headTaken_params ring ring).2]
    cases ring <;> simp [State.headTaken, State.setSubRing, slotAddr, hb, Nat.mul_comm]
  · rw [if_neg (fun hc => hb (hbegins.1 hc)), if_neg hb]
    cases ring <;> simp [State.headTaken, State.setSubRing, hb]

theorem State.takeRecord_rings {s : State} (h : s.dev.state = .running) (ring : Ring) :
    (s.takeRecord ring).rings = { s.rings with
      urgent := (s.takeRecord ring).rings.urgent
      normal := (s.takeRecord ring).rings.normal
      reserved := s.rings.reserved + 1
      urgentRun := s.urgentRunNext ring } := by
  rw [State.takeRecord_eq h]
  cases ring <;> rfl

theorem State.takeRecord_subRing {s : State} (h : s.dev.state = .running) (ring q : Ring) :
    (s.takeRecord ring).subRing q = if q = ring then s.ringAfterTake ring else s.subRing q := by
  rw [State.takeRecord_eq h]
  cases ring <;> cases q <;> rfl

theorem State.takeRecord_emitted {s : State} (h : s.dev.state = .running) (ring : Ring) :
    (s.takeRecord ring).emitted = s.nextRead ring ++ s.emitted := by
  rw [State.takeRecord_eq h]

/-! ## Admission (R117, R122, R124) -/

@[simp] theorem State.raiseStaging_blocks (s : State) (c : Command) :
    (s.raiseStaging c).cmd = s.cmd ∧ (s.raiseStaging c).rings = s.rings ∧ (s.raiseStaging c).emitted = s.emitted ∧
    (s.raiseStaging c).mirror = s.mirror ∧ (s.raiseStaging c).sweep = s.sweep ∧
    (s.raiseStaging c).framer = s.framer ∧ (s.raiseStaging c).watch = s.watch ∧
    (s.raiseStaging c).notif = s.notif ∧ (s.raiseStaging c).hostMem = s.hostMem := by
  unfold State.raiseStaging
  split <;> simp

theorem State.raiseStaging_region (s : State) (c : Command) (r : Fin 64) :
    (s.raiseStaging c).region r = match c with
      | .write r' _ _ _ _ => if r = r' then { s.region r with stagingCount := (s.region r).stagingCount + 1 }
          else s.region r
      | _ => s.region r := by
  cases c
  case write r' _ _ _ _ =>
    simp only [State.raiseStaging, State.region_setRegion]
    split
    next h => rw [h]
    next => rfl
  all_goals rfl

@[simp] theorem State.takeStaging_blocks (s : State) (i : Fin 32) (c : Command) (slot : Option (Fin 8)) :
    (s.takeStaging i c slot).cmd.oct = s.cmd.oct ∧ (s.takeStaging i c slot).cmd.queue = s.cmd.queue ∧
    (s.takeStaging i c slot).cmd.buffers = s.cmd.buffers ∧
    (s.takeStaging i c slot).cmd.statsCopy = s.cmd.statsCopy ∧ (s.takeStaging i c slot).rings = s.rings ∧
    (s.takeStaging i c slot).mirror = s.mirror ∧ (s.takeStaging i c slot).sweep = s.sweep ∧
    (s.takeStaging i c slot).framer = s.framer ∧ (s.takeStaging i c slot).watch = s.watch ∧
    (s.takeStaging i c slot).notif = s.notif ∧ (s.takeStaging i c slot).hostMem = s.hostMem := by
  unfold State.takeStaging
  split <;> simp

theorem State.takeStaging_staging (s : State) (i : Fin 32) (c : Command) (slot : Option (Fin 8)) (j : Fin 8) :
    (s.takeStaging i c slot).cmd.staging[j] = if c.needsStaging = true ∧ slot = some j then
      some { entry := i, words := [], arrived := false, error := false } else s.cmd.staging[j] := by
  unfold State.takeStaging
  split
  next k _ _ _ _ _ => simp [Command.needsStaging, Vector.getElem_set, Fin.ext_iff]
  next hother =>
    rw [if_neg]
    rintro ⟨hc, hslot⟩
    obtain ⟨r, offset, count, addr, waitRemote, hw⟩ := (Command.needsStaging_iff c).1 hc
    exact hother j r offset count addr waitRemote hslot hw

/-- The staging transfer that an admission begins (R122). -/
def Command.stagingRead : Command → List Emission
  | .write _ _ count (.buffer addr) _ => [.hostRead addr (4 * count)]
  | _ => []

theorem State.takeStaging_emitted (s : State) (i : Fin 32) {c : Command} {slot : Option (Fin 8)}
    (h : c.needsStaging = true → slot.isSome = true) (hn : c.needsStaging = false → slot = none) :
    (s.takeStaging i c slot).emitted = c.stagingRead ++ s.emitted := by
  unfold State.takeStaging
  split
  · rfl
  next hother =>
    cases hc : c.needsStaging
    · have hread : c.stagingRead = [] := by
        unfold Command.stagingRead
        split
        · simp [Command.needsStaging] at hc
        · rfl
      rw [hread]
      rfl
    · obtain ⟨j, hj⟩ := Option.isSome_iff_exists.1 (h hc)
      obtain ⟨r, offset, count, addr, waitRemote, hw⟩ := (Command.needsStaging_iff c).1 hc
      exact absurd hw (hother j r offset count addr waitRemote hj)

@[simp] theorem State.takeBuffer_blocks (s : State) (i : Fin 32) (buffer : Option (Fin 4)) :
    (s.takeBuffer i buffer).cmd.oct = s.cmd.oct ∧ (s.takeBuffer i buffer).cmd.queue = s.cmd.queue ∧
    (s.takeBuffer i buffer).cmd.staging = s.cmd.staging ∧
    (s.takeBuffer i buffer).cmd.statsCopy = s.cmd.statsCopy ∧ (s.takeBuffer i buffer).rings = s.rings ∧
    (s.takeBuffer i buffer).emitted = s.emitted ∧ (s.takeBuffer i buffer).mirror = s.mirror ∧
    (s.takeBuffer i buffer).sweep = s.sweep ∧ (s.takeBuffer i buffer).framer = s.framer ∧
    (s.takeBuffer i buffer).watch = s.watch ∧ (s.takeBuffer i buffer).notif = s.notif ∧
    (s.takeBuffer i buffer).hostMem = s.hostMem := by
  cases buffer <;> simp [State.takeBuffer]

theorem State.takeBuffer_buffers (s : State) (i : Fin 32) (buffer : Option (Fin 4)) (j : Fin 4) :
    (s.takeBuffer i buffer).cmd.buffers[j] =
      if buffer = some j then some { entry := i, capture := none } else s.cmd.buffers[j] := by
  cases buffer with
  | none => rfl
  | some k => simp [State.takeBuffer, Vector.getElem_set, Fin.ext_iff]

end Sys2Proof.Machine
end

section
/-! The outcomes of a presentation, and the conditions that decide between them (R140, R146, R148). -/

namespace Sys2Proof.Machine

/-! ## An admitted record (R117) -/

/-- The entry that an admitted record receives (R117). -/
def State.admittedEntry (s : State) (ring : Ring) (tag : BitVec 16) (c : Command) : OctEntry :=
  { ring := ring, tag := tag, command := c, phase := .queued
    staging := if c.needsStaging then firstFree s.cmd.staging else none
    buffer := if c.needsBuffer then firstFree s.cmd.buffers else none
    mark := none, info := .zero }

theorem State.enrol_cmd (s : State) (i : Fin 32) (ring : Ring) (tag : BitVec 16) (c : Command) :
    (s.enrol i ring tag c).cmd.oct = s.cmd.oct.set i (some (s.admittedEntry ring tag c)) ∧
    (s.enrol i ring tag c).cmd.queue = s.cmd.queue ++ [i] ∧
    (s.enrol i ring tag c).cmd.statsCopy = s.cmd.statsCopy := by
  simp [State.enrol, State.setEntry, State.admittedEntry]

@[simp] theorem State.enrol_blocks (s : State) (i : Fin 32) (ring : Ring) (tag : BitVec 16) (c : Command) :
    (s.enrol i ring tag c).rings = s.rings ∧ (s.enrol i ring tag c).mirror = s.mirror ∧
    (s.enrol i ring tag c).sweep = s.sweep ∧ (s.enrol i ring tag c).framer = s.framer ∧
    (s.enrol i ring tag c).watch = s.watch ∧ (s.enrol i ring tag c).notif = s.notif ∧
    (s.enrol i ring tag c).hostMem = s.hostMem := by
  simp [State.enrol]

theorem State.enrol_staging (s : State) (i : Fin 32) (ring : Ring) (tag : BitVec 16) (c : Command) (j : Fin 8) :
    (s.enrol i ring tag c).cmd.staging[j] = if c.needsStaging = true ∧ firstFree s.cmd.staging = some j then
      some { entry := i, words := [], arrived := false, error := false } else s.cmd.staging[j] := by
  simp only [State.enrol, (State.takeBuffer_blocks _ _ _).2.2.1, State.takeStaging_staging,
    (State.raiseStaging_blocks _ _).1]
  cases c.needsStaging <;> rfl

theorem State.enrol_buffers (s : State) (i : Fin 32) (ring : Ring) (tag : BitVec 16) (c : Command) (j : Fin 4) :
    (s.enrol i ring tag c).cmd.buffers[j] = if c.needsBuffer = true ∧ firstFree s.cmd.buffers = some j then
      some { entry := i, capture := none } else s.cmd.buffers[j] := by
  simp only [State.enrol, State.takeBuffer_buffers, (State.takeStaging_blocks _ _ _ _).2.2.1,
    (State.raiseStaging_blocks _ _).1]
  cases c.needsBuffer <;> simp [State.setEntry]

theorem State.enrol_emitted (s : State) (i : Fin 32) (ring : Ring) (tag : BitVec 16) {c : Command}
    (h : c.needsStaging = true → (firstFree s.cmd.staging).isSome = true) :
    (s.enrol i ring tag c).emitted = c.stagingRead ++ s.emitted := by
  simp only [State.enrol, (State.takeBuffer_blocks _ _ _).2.2.2.2.2.1]
  rw [State.takeStaging_emitted _ _ (fun hc => by rw [if_pos hc]; exact h hc) fun hc => by simp [hc],
    (State.raiseStaging_blocks _ _).2.2.1]
  rfl

theorem State.enrol_region (s : State) (i : Fin 32) (ring : Ring) (tag : BitVec 16) (c : Command) (r : Fin 64) :
    (s.enrol i ring tag c).region r = (s.raiseStaging c).region r := by
  simp only [State.region, State.enrol_regions]

/-! ## The presented record -/

theorem State.presentRecord_presents {s : State} {ring : Ring} {bytes : List Byte} (h : s.Runs)
    (hring : s.presentedRing = some ring) (hcopy : (s.subRing ring).copy = some bytes) :
    exec .recordPresentation s = .next (s.presentHead ring bytes) := by
  have hpresents : s.presentRecord = s.presentHead ring bytes := by
    simp only [State.presentRecord, h.2, if_true, hring, hcopy]
  rw [← hpresents]
  exact live_runs h.1

theorem State.presentHead_refuses {s : State} {ring : Ring} {bytes : List Byte} {status : Status}
    (hspace : s.canReserve = true)
    (h : s.checkRecord bytes = .error status ∨
      status = .yielding ∧ ∃ c, s.checkRecord bytes = .ok c ∧ s.yields c = true) :
    s.presentHead ring bytes = s.refuseRecord ring (recordTag bytes) status := by
  rcases h with hcheck | ⟨rfl, c, hcheck, hyields⟩
  · simp [State.presentHead, hspace, hcheck]
  · simp [State.presentHead, hspace, hcheck, hyields]

theorem State.refuseRecord_rings {s : State} (h : s.dev.state = .running) (ring : Ring) (tag : BitVec 16)
    (status : Status) : (s.refuseRecord ring tag status).rings = { s.rings with
      urgent := (s.refuseRecord ring tag status).rings.urgent
      normal := (s.refuseRecord ring tag status).rings.normal
      posting := s.rings.posting ++ [{ ring := ring, tag := tag, status := status, info := .zero, entry := none }]
      reserved := s.rings.reserved + 1
      urgentRun := s.urgentRunNext ring } := by
  simp only [State.refuseRecord]
  rw [State.takeRecord_eq h]
  cases ring <;> rfl

theorem State.presentHead_passes {s : State} {ring : Ring} {bytes : List Byte} {c : Command}
    (hspace : s.canReserve = true) (hcheck : s.checkRecord bytes = .ok c) (hyields : s.yields c = false) :
    s.presentHead ring bytes = s.admitOrWait ring (recordTag bytes) c := by
  simp [State.presentHead, hspace, hcheck, hyields]

/-! ## Lacking resources (R146, stage 4) -/

theorem State.lacking_staging {s : State} {c : Command} (h : s.lacking c = none) (hc : c.needsStaging = true) :
    (firstFree s.cmd.staging).isSome = true := by
  unfold State.lacking at h
  cases hs : firstFree s.cmd.staging with
  | some j => rfl
  | none => cases ho : (firstFree s.cmd.oct).isNone <;> simp [hc, hs, ho] at h

theorem firstFree_isNone_iff {α : Type} {n : Nat} (v : Vector (Option α) n) :
    (firstFree v).isNone = true ↔ ∀ i : Fin n, v[i] ≠ none := by
  rw [Option.isNone_iff_eq_none, firstFree_eq_none_iff]

/-- The first lacking resource by what is free: the order is OCT entry, staging slot, read buffer (R146). -/
theorem State.lacking_iff (s : State) (c : Command) :
    (s.lacking c = some .octEntry ↔ ∀ i : Fin 32, s.cmd.oct[i] ≠ none) ∧
    (s.lacking c = some .stagingSlot ↔ (∃ i : Fin 32, s.cmd.oct[i] = none) ∧
      (∃ r offset count addr waitRemote, c = .write r offset count (.buffer addr) waitRemote) ∧
      ∀ j : Fin 8, s.cmd.staging[j] ≠ none) ∧
    (s.lacking c = some .readBuffer ↔ (∃ i : Fin 32, s.cmd.oct[i] = none) ∧
      (∃ r offset count addr, c = .read r offset count addr) ∧ ∀ j : Fin 4, s.cmd.buffers[j] ≠ none) ∧
    s.lacking c ≠ some .completionSpace := by
  have hoct : (∃ i : Fin 32, s.cmd.oct[i] = none) ↔ (firstFree s.cmd.oct).isNone = false := by
    rw [← Bool.not_eq_true, firstFree_isNone_iff]
    simp
  have hexcl : c.needsStaging = true → c.needsBuffer = false := by
    cases c <;> simp [Command.needsStaging, Command.needsBuffer]
  rw [hoct, ← Command.needsStaging_iff, ← Command.needsBuffer_iff, ← firstFree_isNone_iff, ← firstFree_isNone_iff,
    ← firstFree_isNone_iff]
  cases ho : (firstFree s.cmd.oct).isNone
  case true => simp [State.lacking, ho]
  case false =>
    cases hs : c.needsStaging
    case true => cases hf : (firstFree s.cmd.staging).isNone <;> simp [State.lacking, ho, hs, hf, hexcl hs]
    case false =>
      cases hb : c.needsBuffer <;> cases hf : (firstFree s.cmd.buffers).isNone <;>
        simp [State.lacking, ho, hs, hb, hf]

/-! ## The arbiter and completion space (R140, R148) -/

theorem State.yields_iff (s : State) (c : Command) : s.yields c = true ↔ ∃ r offset count source waitRemote,
    c = .write r offset count source waitRemote ∧ (s.region r).pending.isSome = true ∧ (s.region r).held = false := by
  cases c <;> simp [State.yields]

theorem State.canReserve_iff {s : State} (hpost : s.rings.post < s.params.completionSize)
    (hconsumer : s.rings.consumer < s.params.completionSize) :
    s.canReserve = true ↔
      (s.rings.post + s.params.completionSize - s.rings.consumer) % s.params.completionSize + s.rings.reserved <
        s.params.completionSize - 1 := by
  have hsum : s.rings.post + (s.params.completionSize - s.rings.consumer) =
      s.rings.post + s.params.completionSize - s.rings.consumer := by omega
  simp only [State.canReserve, State.unconsumed, ringDistance, Nat.mod_eq_of_lt hconsumer, hsum, decide_eq_true_eq]
  omega

/-- Settles O11: the record passes every guard, is taken, and is entered in the lowest free places. -/
theorem presentationAdmits : Obligations.PresentationAdmits := by
  unfold Obligations.PresentationAdmits
  refine ⟨fun s ring bytes c i hruns hring hcopy hspace hcheck hyields hlacking hfree => ?_,
    fun α n places i => firstFree_eq_some_iff places i, fun c => ⟨c.needsStaging_iff, c.needsBuffer_iff⟩⟩
  intro next begins
  have hadmit : s.admitOrWait ring (recordTag bytes) c = (s.takeRecord ring).enrol i ring (recordTag bytes) c := by
    simp only [State.admitOrWait, hlacking, hfree]
  obtain ⟨hdev, hmirror, hregions, hcmd, hstream, hsweep, hlink, hframer, hwatch, hnotif, _, hmem, _⟩ :=
    s.takeRecord_frame ring
  obtain ⟨hoct, hqueue, hcopied⟩ := (s.takeRecord ring).enrol_cmd i ring (recordTag bytes) c
  obtain ⟨hrings, hmirror', hsweep', hframer', hwatch', hnotif', hmem'⟩ :=
    (s.takeRecord ring).enrol_blocks i ring (recordTag bytes) c
  obtain ⟨hdev', hstream', hlink'⟩ := (s.takeRecord ring).enrol_frame i ring (recordTag bytes) c
  refine ⟨_, by rw [State.presentRecord_presents hruns hring hcopy, State.presentHead_passes hspace hcheck hyields,
    hadmit], ?_, ?_, fun j => ?_, fun j => ?_, fun r => ?_, ?_, fun q => ?_, ?_, hdev'.trans hdev, hmirror'.trans hmirror,
    hstream'.trans hstream, hlink'.trans hlink, hwatch'.trans hwatch, hnotif'.trans hnotif, hsweep'.trans hsweep,
    hframer'.trans hframer, ?_, hmem'.trans hmem⟩
  · rw [hoct, State.admittedEntry, hcmd]
  · rw [hqueue, hcmd]
  · rw [State.enrol_staging, hcmd]
  · rw [State.enrol_buffers, hcmd]
  · have hregion (q : Fin 64) : (s.takeRecord ring).region q = s.region q := by simp only [State.region, hregions]
    rw [State.enrol_region, State.raiseStaging_region]
    cases c <;> simp only [hregion]
  · rw [hrings]
    exact State.takeRecord_rings hruns.2 ring
  · have hsub : ((s.takeRecord ring).enrol i ring (recordTag bytes) c).subRing q = (s.takeRecord ring).subRing q := by
      cases q <;> simp only [State.subRing, hrings]
    rw [hsub, State.takeRecord_subRing hruns.2]
    rfl
  · rw [State.enrol_emitted _ _ _ _ (by rw [hcmd]; exact State.lacking_staging hlacking),
      State.takeRecord_emitted hruns.2, ← List.append_assoc]
    rfl
  · rw [hcopied, hcmd]

/-- Settles O12: each guard that fails decides the outcome by itself, and each guard says what R140, R146 and R148 ask. -/
theorem presentationRefusesOrWaits : Obligations.PresentationRefusesOrWaits := by
  unfold Obligations.PresentationRefusesOrWaits
  refine ⟨?_, ?_, ?_, ?_, ?_, ?_, ?_, fun s => State.canReserve_iff, State.yields_iff, State.lacking_iff⟩
  · intro s ring bytes hruns hring hcopy hspace
    rw [State.presentRecord_presents hruns hring hcopy]
    simp [State.presentHead, hspace, State.waitFor]
  · intro s ring bytes status hruns hring hcopy hspace hrefused next begins
    obtain ⟨hdev, hmirror, hregions, hcmd, hstream, hsweep, hlink, hframer, hwatch, hnotif, _⟩ :=
      s.takeRecord_frame ring
    refine ⟨s.refuseRecord ring (recordTag bytes) status,
      by rw [State.presentRecord_presents hruns hring hcopy, State.presentHead_refuses hspace hrefused],
      State.refuseRecord_rings hruns.2 ring _ _, fun q => ?_, ?_, hcmd, hregions, hmirror, hstream, hlink, hnotif, hdev,
      hwatch, hsweep, hframer⟩
    · have hsub : (s.refuseRecord ring (recordTag bytes) status).subRing q = (s.takeRecord ring).subRing q := by
        cases q <;> rfl
      rw [hsub, State.takeRecord_subRing hruns.2]
      rfl
    · exact State.takeRecord_emitted hruns.2 ring
  · intro s ring bytes c r hruns hring hcopy hspace hcheck hyields hlacking
    rw [State.presentRecord_presents hruns hring hcopy, State.presentHead_passes hspace hcheck hyields]
    simp [State.admitOrWait, hlacking, State.waitFor]
  · intro s hurgent hrun
    rcases hrun with hnormal | hrun
    · simp [State.presentedRing, hurgent, hnormal]
    · cases hnormal : s.rings.normal.ready <;> simp [State.presentedRing, hurgent, hnormal, Config.urgentRunLimit, hrun]
  · intro s hnormal hrun
    rcases hrun with hurgent | hrun
    · simp [State.presentedRing, hurgent, hnormal]
    · cases hurgent : s.rings.urgent.ready <;>
        simp [State.presentedRing, hurgent, hnormal, Config.urgentRunLimit, Nat.not_lt.2 hrun]
  · intro s ring
    simp [SubRing.ready]
  · intro s hp hnone
    rw [exec_eq_effect hp]
    congr 1
    rcases hnone with hnr | ⟨hurgent, hnormal⟩
    · exact if_neg hnr
    · simp [State.effect, State.presentRecord, State.presentedRing, hurgent, hnormal]

end Sys2Proof.Machine
end

section
/-! The place in the Transmit List of the frame that is offered to the framer (R49). -/

namespace Sys2Proof.Machine

/-- A frame is offered in a session only: the oldest one marked for resending, or with none marked the oldest unsent one
while the window is open (R49). -/
theorem State.offeredIndex_some {s : State} {k : Nat} (h : s.offeredIndex = some k) : s.streaming = true ∧
    ∃ f, s.stream.list[k]? = some f ∧
      ((f.resend = true ∧ ∀ j < k, ∀ g, s.stream.list[j]? = some g → g.resend = false) ∨
        ((∀ g ∈ s.stream.list, g.resend = false) ∧ f.sent = false ∧ s.sentCount < s.params.window ∧
          ∀ j < k, ∀ g, s.stream.list[j]? = some g → g.sent = true)) := by
  unfold State.offeredIndex at h
  split at h
  next hstream =>
    refine ⟨hstream, ?_⟩
    split at h
    next i hfirst =>
      cases h
      obtain ⟨hlt, hmarked, hbefore⟩ := List.findIdx?_eq_some_iff_getElem.1 hfirst
      refine ⟨s.stream.list[k], List.getElem?_eq_getElem hlt, .inl ⟨hmarked, fun j hj g hg => ?_⟩⟩
      obtain ⟨_, rfl⟩ := List.getElem?_eq_some_iff.1 hg
      simpa using hbefore j hj
    next hnone =>
      split at h
      next hwindow =>
        obtain ⟨hlt, hunsent, hbefore⟩ := List.findIdx?_eq_some_iff_getElem.1 h
        refine ⟨s.stream.list[k], List.getElem?_eq_getElem hlt,
          .inr ⟨by simpa using hnone, by simpa using hunsent, hwindow, fun j hj g hg => ?_⟩⟩
        obtain ⟨_, rfl⟩ := List.getElem?_eq_some_iff.1 hg
        simpa using hbefore j hj
      next => cases h
  next => cases h

/-- No frame is offered without a session, or where none is marked and either all are sent or the window is full (R49). -/
theorem State.offeredIndex_none_iff (s : State) : s.offeredIndex = none ↔ s.streaming = false ∨
    (∀ g ∈ s.stream.list, g.resend = false) ∧
      ((∀ g ∈ s.stream.list, g.sent = true) ∨ s.params.window ≤ s.sentCount) := by
  unfold State.offeredIndex
  cases s.streaming
  case false => simp
  case true =>
    cases hfirst : s.stream.list.findIdx? fun t => t.resend
    case some i =>
      obtain ⟨hlt, hmarked, _⟩ := List.findIdx?_eq_some_iff_getElem.1 hfirst
      have hnot : ¬ ∀ g ∈ s.stream.list, g.resend = false := fun hclear =>
        absurd hmarked (by simp [hclear _ (List.getElem_mem hlt)])
      simp [hnot]
    case none =>
      have hclear : ∀ g ∈ s.stream.list, g.resend = false := by simpa using hfirst
      rw [and_iff_right hclear]
      by_cases hwindow : s.sentCount < s.params.window
      · simp [hwindow, Nat.not_le.2 hwindow]
      · simp [hwindow, Nat.not_lt.1 hwindow]

end Sys2Proof.Machine
end

section
/-! What the parts of a step can do to the Transmit List, and that each of it keeps the list numbered and its sent frames in
front and within the window (R44, R45, R48, R49). -/

namespace Sys2Proof.Machine

/-! ## The changes of the list -/

/-- What a part of a step may do to the Transmit List, its next number and the parameters in force: leave them, let a frame
join where it finds room, let the oldest frames leave, empty the list (with any number and parameters then), mark the sent
frames for resending, or take the offered frame (R45, R48 to R50, R53, R55, R63, R65). -/
inductive State.ListMoves : State → State → Prop
  | same {s t : State} (h : t.stream.list = s.stream.list ∧ t.stream.nextSeq = s.stream.nextSeq ∧
      t.dev.setup = s.dev.setup) : State.ListMoves s t
  | joins (s : State) (c : SeqContent) (owner : Option (Fin 32))
      (hroom : c.isUpdate = true → s.updateCount + 1 ≤ Config.maxUpdates) : State.ListMoves s (s.enqueue c owner)
  | leaves (s : State) (count : Nat) : State.ListMoves s { s with stream.list := s.stream.list.drop count }
  | empties {s t : State} (h : t.stream.list = []) : State.ListMoves s t
  | marks (s : State) : State.ListMoves s { s with stream.list := s.stream.list.map TxEntry.again }
  | sends (s : State) (k : Nat) (f : TxEntry) (hk : s.offeredIndex = some k) (hf : s.stream.list[k]? = some f) :
      State.ListMoves s { s with stream.list := s.stream.list.set k { f with sent := true, resend := false } }
  | trans {s t u : State} (h : State.ListMoves s t) (k : State.ListMoves t u) : State.ListMoves s u

namespace State.ListMoves

theorem refl (s : State) : s.ListMoves s := same ⟨rfl, rfl, rfl⟩

theorem then_same {s t u : State} (h : s.ListMoves t) (k : u.stream.list = t.stream.list ∧
    u.stream.nextSeq = t.stream.nextSeq ∧ u.dev.setup = t.dev.setup) : s.ListMoves u := h.trans (same k)

/-- The rest of a step is guarded by `andThen`. -/
theorem andThen {s t : State} (h : s.ListMoves t) {f : State → State} (hf : t.ListMoves (f t)) :
    s.ListMoves (t.andThen f) := by
  unfold State.andThen
  split
  · exact h
  · exact h.trans hf

end State.ListMoves

@[simp] theorem TxEntry.again_flags (t : TxEntry) :
    t.again.content = t.content ∧ t.again.seq = t.seq ∧ t.again.sent = t.sent ∧
      t.again.resend = (t.resend || t.sent) := by
  unfold TxEntry.again
  split
  next h => simp [h]
  next h => simp [h]

/-! ## Numbers (R45, R48) -/

theorem State.ListNumbered.enqueue {s : State} (h : s.ListNumbered) {c : SeqContent} (owner : Option (Fin 32))
    (hroom : c.isUpdate = true → s.updateCount + 1 ≤ 95) : (s.enqueue c owner).ListNumbered := by
  obtain ⟨hcount, hseq⟩ := h
  constructor
  · have hadd : (s.enqueue c owner).updateCount = s.updateCount + if c.isUpdate then 1 else 0 := by
      simp [State.updateCount, State.enqueue, List.countP_cons]
    rw [hadd]
    split
    next hc => exact hroom hc
    next => exact hcount
  · intro k t ht
    simp only [State.enqueue, List.length_append, List.length_singleton] at ht ⊢
    by_cases hk : k < s.stream.list.length
    · rw [List.getElem?_append_left hk] at ht
      rw [hseq k t ht, Nat.sub_add_comm hk.le, BitVec.ofNat_add]
      exact (add_sub_add_right_eq_sub _ _ _).symm
    · rw [List.getElem?_append_right (Nat.not_lt.1 hk), List.getElem?_singleton] at ht
      split at ht
      next hlast =>
        cases ht
        have hone : s.stream.list.length + 1 - k = 1 := by omega
        rw [hone]
        exact (add_sub_cancel_right _ _).symm
      next => cases ht

theorem State.ListNumbered.drop {s : State} (h : s.ListNumbered) (count : Nat) :
    State.ListNumbered { s with stream.list := s.stream.list.drop count } := by
  obtain ⟨hcount, hseq⟩ := h
  refine ⟨((List.drop_sublist _ _).countP_le).trans hcount, fun k t ht => ?_⟩
  rw [List.getElem?_drop] at ht
  rw [hseq _ t ht]
  simp only [List.length_drop, Nat.sub_sub]

/-- A change of the frames in the list that leaves their contents and their numbers. -/
theorem State.ListNumbered.of_frames {s t : State} (h : s.ListNumbered)
    (hl : t.stream.list.map (fun f => (f.content, f.seq)) = s.stream.list.map fun f => (f.content, f.seq))
    (hn : t.stream.nextSeq = s.stream.nextSeq) : t.ListNumbered := by
  obtain ⟨hcount, hseq⟩ := h
  have hlength : t.stream.list.length = s.stream.list.length := by simpa using congrArg List.length hl
  constructor
  · have hc := congrArg (List.countP fun x : SeqContent × BitVec 8 => x.1.isUpdate) hl
    simp only [List.countP_map, Function.comp_def] at hc
    exact hc.trans_le hcount
  · intro k f hf
    have hget := congrArg (fun l => l[k]?) hl
    simp only [List.getElem?_map, hf, Option.map_some] at hget
    obtain ⟨g, hg, heq⟩ := Option.map_eq_some_iff.1 hget.symm
    rw [hn, hlength, ← hseq k g hg]
    exact (congrArg Prod.snd heq).symm

theorem State.ListMoves.listNumbered {s t : State} (h : s.ListMoves t) : s.ListNumbered → t.ListNumbered := by
  induction h with
  | same h => exact fun hs => hs.of_frames (by rw [h.1]) h.2.1
  | joins s c owner hroom => exact fun hs => hs.enqueue owner hroom
  | leaves s count => exact fun hs => hs.drop count
  | empties h => exact fun _ => ⟨by simp [State.updateCount, h], fun k f hf => by simp [h] at hf⟩
  | marks s => exact fun hs => hs.of_frames (by simp [Function.comp_def]) rfl
  | sends s k f hk hf =>
    refine fun hs => hs.of_frames ?_ rfl
    obtain ⟨hlt, hget⟩ := List.getElem?_eq_some_iff.1 hf
    subst hget
    rw [List.map_set]
    exact (congrArg _ (List.getElem_map _).symm).trans (List.set_getElem_self (by simpa using hlt))
  | trans _ _ ih₁ ih₂ => exact ih₂ ∘ ih₁

/-! ## Sent frames and the window (R44, R45, R49) -/

theorem State.WindowKept.enqueue {s : State} (h : s.WindowKept) (c : SeqContent) (owner : Option (Fin 32)) :
    (s.enqueue c owner).WindowKept := by
  obtain ⟨hwindow, hmarks, hfront⟩ := h
  have hcount : (s.enqueue c owner).sentCount = s.sentCount := by simp [State.sentCount, State.enqueue]
  refine ⟨hcount.trans_le hwindow, fun t ht => ?_, ?_⟩
  · rcases List.mem_append.1 ht with ht | ht
    · exact hmarks t ht
    · rw [List.mem_singleton.1 ht]; simp
  · exact List.pairwise_append.2 ⟨hfront, List.pairwise_singleton _ _, fun a _ b hb hsent => by
      rw [List.mem_singleton.1 hb] at hsent; simp at hsent⟩

theorem State.WindowKept.drop {s : State} (h : s.WindowKept) (count : Nat) :
    State.WindowKept { s with stream.list := s.stream.list.drop count } := by
  obtain ⟨hwindow, hmarks, hfront⟩ := h
  have hsub := List.drop_sublist count s.stream.list
  exact ⟨hsub.countP_le.trans hwindow, fun t ht => hmarks t (hsub.subset ht), hfront.sublist hsub⟩

theorem State.WindowKept.again {s : State} (h : s.WindowKept) :
    State.WindowKept { s with stream.list := s.stream.list.map TxEntry.again } := by
  obtain ⟨hwindow, hmarks, hfront⟩ := h
  have hcount : State.sentCount { s with stream.list := s.stream.list.map TxEntry.again } = s.sentCount := by
    simp [State.sentCount, List.countP_map, Function.comp_def]
  refine ⟨hcount.trans_le hwindow, fun t ht => ?_, ?_⟩
  · obtain ⟨f, hf, rfl⟩ := List.mem_map.1 ht
    simpa [or_imp] using hmarks f hf
  · simpa [List.pairwise_map] using hfront

/-- The take of the offered frame: every frame before it is sent already, and it is sent itself or the window is open. -/
theorem State.WindowKept.send {s : State} (h : s.WindowKept) {k : Nat} {f : TxEntry} (hk : s.offeredIndex = some k)
    (hf : s.stream.list[k]? = some f) :
    State.WindowKept { s with stream.list := s.stream.list.set k { f with sent := true, resend := false } } := by
  obtain ⟨hwindow, hmarks, hfront⟩ := h
  obtain ⟨_, g, hg, hoffer⟩ := State.offeredIndex_some hk
  obtain rfl : g = f := Option.some.inj (hg.symm.trans hf)
  obtain ⟨hlt, hget⟩ := List.getElem?_eq_some_iff.1 hf
  have hpairs := List.pairwise_iff_getElem.1 hfront
  have hbefore (j : Nat) (hj : j < k) : (s.stream.list[j]'(hj.trans hlt)).sent = true := by
    rcases hoffer with ⟨hmarked, _⟩ | ⟨_, _, _, hsent⟩
    · exact hpairs j k (hj.trans hlt) hlt hj (by rw [hget]; exact hmarks g (hget ▸ List.getElem_mem hlt) hmarked)
    · exact hsent j hj _ (List.getElem?_eq_getElem (hj.trans hlt))
  refine ⟨?_, fun t ht => ?_, List.pairwise_iff_getElem.2 fun i j hi hj hij => ?_⟩
  · have hcount := List.countP_set (p := fun t => t.sent) (l := s.stream.list) (i := k)
      (a := { g with sent := true, resend := false }) hlt
    change _ ≤ s.params.window
    rw [State.sentCount, hcount, hget]
    have hpos : g.sent = true → 0 < s.sentCount := fun hsent =>
      List.countP_pos_iff.2 ⟨g, hget ▸ List.getElem_mem hlt, hsent⟩
    rcases hoffer with ⟨hmarked, _⟩ | ⟨_, hunsent, hopen, _⟩
    · have hsent := hmarks g (hget ▸ List.getElem_mem hlt) hmarked
      have := hpos hsent
      simp only [hsent, if_true, State.sentCount] at this hwindow ⊢
      omega
    · simp only [hunsent, State.sentCount, Bool.false_eq_true, if_false, if_true] at hopen ⊢
      omega
  · rcases List.mem_or_eq_of_mem_set ht with ht | rfl
    · exact hmarks t ht
    · simp
  · simp only [List.getElem_set]
    by_cases hik : k = i
    · simp [hik]
    by_cases hjk : k = j
    · simpa [hik] using fun _ => hbefore i (hjk ▸ hij)
    · simpa [hik, hjk] using hpairs i j (by simpa using hi) (by simpa using hj) hij

theorem State.ListMoves.windowKept {s t : State} (h : s.ListMoves t) : s.WindowKept → t.WindowKept := by
  induction h with
  | same h =>
    obtain ⟨hlist, _, hsetup⟩ := h
    exact fun hs => by simpa only [State.WindowKept, State.sentCount, State.params, hlist, hsetup] using hs
  | joins s c owner _ => exact fun hs => hs.enqueue c owner
  | leaves s count => exact fun hs => hs.drop count
  | empties h => exact fun _ => by simp [State.WindowKept, State.sentCount, h]
  | marks s => exact State.WindowKept.again
  | sends s k f hk hf => exact fun hs => hs.send hk hf
  | trans _ _ ih₁ ih₂ => exact ih₂ ∘ ih₁

end Sys2Proof.Machine
end

section
/-! The parts of a step that commit WRITE commands, run the refresh, take acknowledgements, lose the link or join move the
Transmit List only as `State.ListMoves` says. -/

namespace Sys2Proof.Machine

open State.ListMoves

/-! ## Parts that leave the list and the parameters alone -/

@[simp] theorem State.raise_setup (s : State) (c : Counter) : (s.raise c).dev.setup = s.dev.setup := rfl

@[simp] theorem State.protocolError_setup (s : State) (k : ProtocolKind) (b : Option Byte) :
    (s.protocolError k b).dev.setup = s.dev.setup := rfl

@[simp] theorem State.transmit_setup (s : State) (ep : BitVec 16) (b : FrameBody) :
    (s.transmit ep b).dev.setup = s.dev.setup := rfl

@[simp] theorem State.frameEnded_setup (s : State) (a : Assembly) (cut : Bool) :
    (s.frameEnded a cut).dev.setup = s.dev.setup := by
  unfold State.frameEnded
  split <;> rfl

@[simp] theorem State.sweepTick_setup (s : State) : s.sweepTick.dev.setup = s.dev.setup := by
  unfold State.sweepTick
  split
  · rfl
  · simp

@[simp] theorem State.takeSubmission_setup (s : State) : s.takeSubmission.dev.setup = s.dev.setup := by
  unfold State.takeSubmission State.placeRecord
  repeat' split
  all_goals rfl

@[simp] theorem State.haltIfReported_setup (s : State) : s.haltIfReported.dev.setup = s.dev.setup := by
  unfold State.haltIfReported
  split <;> rfl

theorem State.enterFaulted_moves (s : State) (code : FaultCode) : s.ListMoves (s.enterFaulted code) := by
  unfold State.enterFaulted
  split
  · exact same ⟨rfl, rfl, rfl⟩
  · exact refl s

theorem State.writeTakesEffect_moves (s : State) (e : OctEntry) (r : Fin 64) : s.ListMoves (s.writeTakesEffect e r) :=
  same (by simp [State.writeTakesEffect])

/-! ## Control frames: denials and the grant step (R45) -/

/-- A frame other than an UPDATE finds room always. -/
theorem State.ListMoves.control (s : State) {c : SeqContent} (hc : c.isUpdate = false) (owner : Option (Fin 32)) :
    s.ListMoves (s.enqueue c owner) := joins s c owner fun h => by simp [hc] at h

theorem State.deny_moves (s : State) (r : Fin 64) (d : DenyReason) : s.ListMoves (s.deny r d) := control s rfl none

theorem State.grantStep_moves (s : State) (r : Fin 64) : s.ListMoves (s.grantStep r) := by
  have grants (content : Option (List Word)) : s.ListMoves (s.grantWith r content) :=
    (control s (c := .ownGrant (regionByte r) (nextGeneration (s.region r).generation) content) rfl none).then_same
      ⟨rfl, rfl, rfl⟩
  unfold State.grantStep
  repeat' split
  · exact grants _
  · exact s.enterFaulted_moves _
  · exact grants _

theorem State.grantIfDue_moves (s : State) (r : Fin 64) : s.ListMoves (s.grantIfDue r) := by
  unfold State.grantIfDue
  split
  · exact s.grantStep_moves r
  · exact refl s

/-! ## The batch of a WRITE (R46, R47) -/

theorem writeBatch_isUpdate (fuel : Nat) (r : Fin 64) (offset : Nat) (words : List Word) :
    ∀ c ∈ writeBatch fuel r offset words, c.isUpdate = true := by
  induction fuel generalizing offset words with
  | zero => simp [writeBatch]
  | succ n ih =>
    unfold writeBatch
    repeat' split
    · simp
    · simp [SeqContent.isUpdate]
    · exact List.forall_mem_cons.2 ⟨rfl, ih _ _⟩

/-- The frames of a batch that has found room join one by one. -/
theorem State.enqueueBatch_moves (s : State) {frames : List SeqContent} (hroom : s.batchFits frames = true)
    (owner : Option (Fin 32)) : s.ListMoves (s.enqueueBatch frames owner) := by
  unfold State.enqueueBatch
  induction frames generalizing s with
  | nil => exact refl s
  | cons c l ih =>
    simp only [State.batchFits, List.length_cons, decide_eq_true_eq] at hroom
    have hcount : (s.enqueue c owner).updateCount ≤ s.updateCount + 1 := by
      have hone : List.countP (fun t : TxEntry => t.content.isUpdate)
        [{ content := c, seq := s.stream.nextSeq, sent := false, resend := false, owner := owner }] ≤ 1 :=
        List.countP_le_length
      simp only [State.updateCount, State.enqueue, List.countP_append]
      omega
    refine (joins s c owner fun _ => by omega).trans (ih (s.enqueue c owner) ?_)
    simp only [State.batchFits, decide_eq_true_eq]
    omega

theorem State.writeCompletes_moves (s : State) (i : Fin 32) (e : OctEntry) (r : Fin 64) (st : Status) (info : Info) :
    s.ListMoves (s.writeCompletes i e r st info) :=
  ((s.writeTakesEffect_moves e r).then_same (by simp)).trans (State.grantIfDue_moves _ r)

theorem State.presentWrite_moves (s : State) (i : Fin 32) (e : OctEntry) (r : Fin 64) (offset : Nat)
    (words : List Word) (waitRemote : Bool) : s.ListMoves (s.presentWrite i e r offset words waitRemote) := by
  unfold State.presentWrite
  simp only []
  split
  · split
    · exact State.ListMoves.trans (same (by simp)) (State.writeCompletes_moves ..)
    · exact same ⟨rfl, rfl, rfl⟩
  split
  next hroom =>
    have batch (owner : Option (Fin 32)) : s.ListMoves
        ((s.enqueueBatch (writeBatch words.length r offset words) owner).apply r offset words .localHost) :=
      (s.enqueueBatch_moves hroom owner).then_same (by simp)
    split
    · exact (((batch (some i)).trans (State.writeTakesEffect_moves _ e r)).then_same (by simp)).trans
        (State.grantIfDue_moves _ r)
    · exact (batch none).trans (State.writeCompletes_moves ..)
  next => exact same ⟨rfl, rfl, rfl⟩

theorem State.writeEffect_moves (s : State) (i : Fin 32) (e : OctEntry) (r : Fin 64) (offset : Nat)
    (source : WriteSource) (waitRemote : Bool) : s.ListMoves (s.writeEffect i e r offset source waitRemote) := by
  have applied (words : List Word) (st : Status) (info : Info) :
      s.ListMoves ((s.apply r offset words .localHost).writeCompletes i e r st info) :=
    State.ListMoves.trans (same (by simp)) (State.writeCompletes_moves ..)
  unfold State.writeEffect
  simp only []
  split
  · exact s.writeCompletes_moves ..
  split
  · exact s.writeCompletes_moves ..
  split
  · exact s.writeCompletes_moves ..
  split
  · exact applied ..
  split
  · exact s.presentWrite_moves ..
  · exact applied ..

theorem State.presentHeadWrite_moves (s : State) : s.ListMoves s.presentHeadWrite := by
  unfold State.presentHeadWrite
  repeat' split
  any_goals exact refl s
  exact s.presentWrite_moves ..

/-! ## The refresh cursor (R92) -/

theorem State.refreshSearch_moves (s : State) (first : Nat) : s.ListMoves (s.refreshSearch first) := by
  unfold State.refreshSearch
  split
  · exact same ⟨rfl, rfl, rfl⟩
  · exact State.ListMoves.trans (same (t := { s with link.refresh := none }) ⟨rfl, rfl, rfl⟩)
      (control _ (c := .syncDone) rfl none)

theorem State.refreshStep_moves (s : State) (c : RefreshCursor) : s.ListMoves (s.refreshStep c).1 := by
  unfold State.refreshStep
  simp only []
  split
  · split
    · exact same ⟨rfl, rfl, rfl⟩
    split
    next hroom =>
      split
      · exact s.enterFaulted_moves _
      next words _ =>
        have hframe : s.ListMoves (s.enqueue (refreshFrame c.region c.step words) none) := joins s _ none fun _ => hroom
        split
        · exact hframe.then_same ⟨rfl, rfl, rfl⟩
        · exact hframe.trans (State.refreshSearch_moves _ _)
    next => exact same ⟨rfl, rfl, rfl⟩
  · exact s.refreshSearch_moves _

theorem State.refreshRun_moves (fuel : Nat) (s : State) : s.ListMoves (State.refreshRun fuel s) := by
  induction fuel generalizing s with
  | zero => exact refl s
  | succ n ih =>
    unfold State.refreshRun
    split
    · exact refl s
    next c _ =>
      split
      · exact (s.refreshStep_moves c).trans (ih _)
      · exact s.refreshStep_moves c

/-! ## Waiting requesters and acknowledgements (R46, R53) -/

theorem State.presentRequester_moves (s : State) (q : Requester) : s.ListMoves (s.presentRequester q) := by
  cases q
  case write => exact s.presentHeadWrite_moves
  case refresh => exact State.refreshRun_moves _ s

theorem State.presentNext_fold_moves (l : List Requester) (s : State) : s.ListMoves (l.foldl State.presentNext s) := by
  induction l generalizing s with
  | nil => exact refl s
  | cons q l ih => exact ((refl s).andThen (s.presentRequester_moves q)).trans (ih _)

theorem State.presentWaiting_moves (s : State) : s.ListMoves s.presentWaiting :=
  State.ListMoves.trans (same (by simp)) (State.presentNext_fold_moves _ _)

theorem State.takeAcknowledgement_moves (s : State) (count : Nat) : s.ListMoves (s.takeAcknowledgement count) := by
  have hleaves := leaves s count
  unfold State.takeAcknowledgement
  simp only []
  split
  · exact (hleaves.then_same (by simp)).trans (State.presentWaiting_moves _)
  · exact hleaves.then_same (by simp)

theorem State.processAck_moves (s : State) (n : BitVec 8) : s.ListMoves (s.processAck n) := by
  unfold State.processAck
  simp only []
  repeat' split
  · exact s.takeAcknowledgement_moves _
  · exact same ⟨rfl, rfl, rfl⟩
  · exact refl s

/-! ## Losses and joins (R63, R65, R90) -/

theorem State.linkLoss_moves (s : State) (reason : LossReason) : s.ListMoves (s.linkLoss reason) := by
  obtain ⟨_, _, hempty, _⟩ := s.linkLoss_leaves reason
  exact empties hempty

theorem State.completeJoin_moves (s : State) (peer : HelloContent) : s.ListMoves (s.completeJoin peer) := by
  refine State.ListMoves.trans ?_ (State.refreshRun_moves _ _)
  refine State.ListMoves.trans ?_ (State.refreshSearch_moves _ _)
  exact empties rfl

end Sys2Proof.Machine
end

section
/-! Every command, and so every step, moves the Transmit List only as `State.ListMoves` says. -/

namespace Sys2Proof.Machine

open State.ListMoves

/-! ## Shared guards -/

theorem State.atHead_moves {s : State} {f : Fin 32 → OctEntry → State} (h : ∀ i e, s.ListMoves (f i e)) :
    s.ListMoves (s.atHead f) := by
  unfold State.atHead
  repeat' split
  any_goals exact refl s
  exact h _ _

theorem State.takeHeld_moves {s : State} {α : Type} {kind : Frame → Option α} {f : State → α → State}
    (h : ∀ (t : State) a, t.ListMoves (f t a)) : s.ListMoves (s.takeHeld kind f) := by
  unfold State.takeHeld
  repeat' split
  any_goals exact refl s
  next rest _ _ _ _ =>
    exact State.ListMoves.trans (same (t := { s with framer.heldFrames := rest }) ⟨rfl, rfl, rfl⟩) (h _ _)

theorem State.filtered_moves {s : State} {epoch : BitVec 16} {f : State → State}
    (h : ∀ t : State, t.ListMoves (f t)) : s.ListMoves (s.filtered epoch f) := by
  unfold State.filtered
  repeat' split
  · exact State.ListMoves.trans (same (t := s.restartSilence) ⟨rfl, rfl, rfl⟩) (h _)
  · exact same ⟨rfl, rfl, rfl⟩
  · exact refl s

theorem State.toStream_moves {s : State} {epoch : BitVec 16} {f : State → State}
    (h : ∀ t : State, t.ListMoves (f t)) : s.ListMoves (s.toStream epoch f) := by
  refine State.filtered_moves fun t => ?_
  split
  · exact h t
  · exact refl t

theorem State.takeSequenced_moves (s : State) (seq acked : BitVec 8) {f : State → State}
    (h : ∀ t : State, t.ListMoves (f t)) : s.ListMoves (s.takeSequenced seq acked f) := by
  refine (s.processAck_moves acked).andThen (f := fun t =>
    if (seq - t.stream.expected).toNat = 0 then f t.takenInOrder
    else if (seq - t.stream.expected).toNat ≤ 127 then t.raise .outOfOrder
    else { t.raise .duplicates with stream.ackDue := true }) ?_
  generalize s.processAck acked = t
  split
  · exact State.ListMoves.trans (same (t := t.takenInOrder) ⟨rfl, rfl, rfl⟩) (h _)
  split
  · exact same ⟨rfl, rfl, rfl⟩
  · exact same ⟨rfl, rfl, rfl⟩

theorem State.receiveSequenced_moves (s : State) {α : Type} (kind : SeqContent → Option α)
    {dispatch : State → α → State} (h : ∀ (t : State) a, t.ListMoves (dispatch t a)) :
    s.ListMoves (s.receiveSequenced kind dispatch) :=
  State.takeHeld_moves fun _ _ => State.toStream_moves fun u => u.takeSequenced_moves _ _ fun v => h v _

theorem State.onRegion_moves {s : State} {region : Byte} {f : Fin 64 → State} (h : ∀ r, s.ListMoves (f r)) :
    s.ListMoves (s.onRegion region f) := by
  unfold State.onRegion
  repeat' split
  any_goals exact same ⟨rfl, rfl, rfl⟩
  exact h _

/-! ## Commands at the head of the Execution Queue -/

theorem State.claimEffect_moves (s : State) (i : Fin 32) (e : OctEntry) (r : Fin 64) (noWait : Bool) :
    s.ListMoves (s.claimEffect i e r noWait) := by
  have starts : s.ListMoves (s.claimStarts i e r noWait) :=
    (control s (c := .ownReq (regionByte r) (s.region r).generation noWait) rfl none).then_same ⟨rfl, rfl, rfl⟩
  have finishes (st : Status) (info : Info) : s.ListMoves (s.finishHead i st info) := same (by simp)
  unfold State.claimEffect
  repeat' split
  any_goals exact finishes _ _
  exact starts

theorem State.releaseEffect_moves (s : State) (i : Fin 32) (e : OctEntry) (r : Fin 64) :
    s.ListMoves (s.releaseEffect i e r) := by
  have starts : s.ListMoves (s.releaseStarts i e r) := (s.grantStep_moves r).andThen (same (by simp))
  have finishes (st : Status) (info : Info) : s.ListMoves (s.finishHead i st info) := same (by simp)
  unfold State.releaseEffect
  repeat' split
  any_goals exact finishes _ _
  exact starts

theorem State.unholdEffect_moves (s : State) (r : Fin 64) : s.ListMoves (s.unholdEffect r) := by
  have hclear : s.ListMoves (s.setHeld r false) := same ⟨rfl, rfl, rfl⟩
  unfold State.unholdEffect
  repeat' split
  · exact hclear.trans (State.grantStep_moves _ r)
  · exact hclear
  · exact refl s

theorem State.unholdAtHead_moves (s : State) : s.ListMoves s.unholdAtHead := by
  refine State.atHead_moves fun i e => ?_
  repeat' split
  · exact same (by simp)
  · exact same (by simp)
  · exact (s.unholdEffect_moves _).andThen (same (by simp))
  · exact refl s

theorem State.linkDownAtHead_moves (s : State) : s.ListMoves s.linkDownAtHead := by
  have down : s.ListMoves s.linkDownEffect := by
    unfold State.linkDownEffect
    split
    · exact refl s
    · exact same ⟨rfl, rfl, rfl⟩
    · exact s.linkLoss_moves _
  refine State.atHead_moves fun i e => ?_
  split
  · exact down.then_same (by simp)
  · exact refl s

/-! ## Ends of transfers, POST writes and aborts -/

theorem State.abortEntry_moves (s : State) (i : Fin 32) : s.ListMoves (s.abortEntry i) := by
  have gives (e : OctEntry) : s.ListMoves (s.giveUp e) := by
    unfold State.giveUp
    repeat' split
    · exact s.writeTakesEffect_moves e _
    all_goals exact same (by simp)
  unfold State.abortEntry
  split
  · exact refl s
  next e _ => exact (gives e).then_same (by simp)

theorem State.abortAll_moves (s : State) : s.ListMoves s.abortAll := by
  unfold State.abortAll
  induction List.finRange 32 generalizing s with
  | nil => exact refl s
  | cons i l ih =>
    have hidle : s.ListMoves (s.abortIdle i) := by
      unfold State.abortIdle
      repeat' split
      any_goals exact refl s
      exact s.abortEntry_moves i
    exact hidle.trans (ih _)

theorem State.stagingEnds_moves (s : State) (j : Fin 8) (result : Option (List FoundByte)) :
    s.ListMoves (s.stagingEnds j result) := by
  have resumes (t : State) (i : Fin 32) : t.ListMoves (t.writeResumes i) := by
    unfold State.writeResumes
    repeat' split
    any_goals exact refl t
    exact t.writeEffect_moves ..
  unfold State.stagingEnds
  repeat' split
  any_goals exact refl s
  · exact State.ListMoves.trans (same (by simp)) (resumes _ _)
  · exact s.abortEntry_moves _

/-- The bytes of an output transfer that ends without error go to host memory (R130, R133). -/
theorem State.outputWritten_moves (s : State) (ok : Bool) (a : Addr) (d : List Byte) :
    s.ListMoves (if ok then s.hostWritten a d else s) := by
  split
  · exact same (by simp)
  · exact refl s

theorem State.readOutputEnds_moves (s : State) (j : Fin 4) (ok : Bool) : s.ListMoves (s.readOutputEnds j ok) := by
  unfold State.readOutputEnds
  split
  · exact refl s
  split
  next c e _ _ =>
    have hwritten := s.outputWritten_moves ok e.command.bufferAddr (wordBytes c.words)
    simp only []
    split
    · exact hwritten.then_same (by simp)
    · exact hwritten.trans (State.abortEntry_moves _ _)
    · exact refl s
  next => exact refl s

theorem State.statsOutputEnds_moves (s : State) (ok : Bool) : s.ListMoves (s.statsOutputEnds ok) := by
  unfold State.statsOutputEnds
  split
  next copy i _ _ _ =>
    split
    · exact refl s
    split
    next addr _ _ =>
      have hwritten := s.outputWritten_moves ok addr (statsBytes copy)
      split
      · simp only []
        split
        · exact hwritten.then_same (by simp)
        · exact hwritten.trans (State.abortEntry_moves _ _)
        · exact refl s
      · exact refl s
    next => exact refl s
  next => exact refl s

theorem State.fetchEnds_moves (s : State) (ring : Ring) (result : Option (Vector FoundByte 32)) :
    s.ListMoves (s.fetchEnds ring result) := by
  have fetched (v : SubRing) : s.ListMoves (s.setSubRing ring v) := same (by simp)
  unfold State.fetchEnds
  simp only []
  repeat' split
  any_goals exact fetched _
  any_goals exact refl s
  exact (fetched _).trans (State.enterFaulted_moves _ _)

theorem State.postWrite_moves (s : State) (selector index : Nat) : s.ListMoves (s.postWrite selector index) := by
  unfold State.postWrite State.postProducer State.postConsumer State.postNotify
  simp only []
  repeat' split
  any_goals exact s.enterFaulted_moves _
  all_goals exact same (by simp)

/-! ## Resets, control writes and the setup load -/

theorem State.released_moves (s : State) : s.ListMoves s.released := by
  unfold State.released
  split
  · exact empties rfl
  · exact refl s

theorem State.startWritten_moves (s : State) : s.ListMoves s.startWritten := by
  unfold State.startWritten
  simp only []
  repeat' split
  all_goals exact same ⟨rfl, rfl, rfl⟩

theorem State.resetWritten_moves (s : State) : s.ListMoves s.resetWritten := by
  unfold State.resetWritten
  split
  · exact same ⟨rfl, rfl, rfl⟩
  · exact empties rfl

theorem State.clearFaultWritten_moves (s : State) : s.ListMoves s.clearFaultWritten := by
  unfold State.clearFaultWritten
  split
  · exact empties rfl
  · exact same ⟨rfl, rfl, rfl⟩

theorem State.reports_move (s : State) : s.ListMoves s.ringsReport ∧ s.ListMoves s.notifyReport := by
  unfold State.ringsReport State.notifyReport
  constructor
  all_goals split <;> exact same (by simp)

theorem State.stopWritten_moves (s : State) : s.ListMoves s.stopWritten := by
  have stops (t : State) : t.ListMoves t.stopLink := by
    unfold State.stopLink
    split
    · exact refl t
    · exact same ⟨rfl, rfl, rfl⟩
    · exact t.linkLoss_moves _
  have hstop : s.ListMoves s.stopAccepted.stopLink.stopAdmission :=
    State.ListMoves.trans (same (t := s.stopAccepted) ⟨rfl, rfl, rfl⟩)
      ((stops s.stopAccepted).trans (same ⟨rfl, rfl, rfl⟩))
  rw [State.stopWritten_eq]
  split
  · exact ((hstop.trans (State.abortAll_moves _)).trans (State.reports_move _).1).trans (State.reports_move _).2
  · exact same ⟨rfl, rfl, rfl⟩

theorem State.setupEnds_moves (s : State) (result : Option (Vector FoundByte 128)) : s.ListMoves (s.setupEnds result) := by
  have loads (p : SetupParams) : s.ListMoves (s.loadSetup p) := by
    unfold State.loadSetup
    simp only []
    split <;> exact empties rfl
  unfold State.setupEnds
  repeat' split
  any_goals exact same ⟨rfl, rfl, rfl⟩
  exact loads _

theorem State.controlWrite_moves (s : State) (code : Nat) : s.ListMoves (s.controlWrite code) := by
  unfold State.controlWrite
  split
  · exact s.startWritten_moves
  · exact s.stopWritten_moves
  · exact s.resetWritten_moves
  · exact s.clearFaultWritten_moves
  · exact same ⟨rfl, rfl, rfl⟩

theorem State.writeWindow_moves (s : State) (offset : Nat) (data : List Byte) :
    s.ListMoves (s.writeWindow offset data) := by
  have register (t : State) (o : Nat) (value : Word) : t.ListMoves (t.writeRegister o value) := by
    unfold State.writeRegister
    split
    · exact t.controlWrite_moves _
    · exact same ⟨rfl, rfl, rfl⟩
    · exact same ⟨rfl, rfl, rfl⟩
    · exact t.postWrite_moves _ _
    · exact refl t
  unfold State.writeWindow
  induction wholeWords offset data generalizing s with
  | nil => exact refl s
  | cons x l ih => exact (register s x.1 x.2).trans (ih _)

end Sys2Proof.Machine
end

section
/-! Received frames, timers and the take of a frame; then every command and every step. -/

namespace Sys2Proof.Machine

open State.ListMoves

/-! ## What received frames do -/

theorem State.takeRequest_moves (s : State) (r : Fin 64) (generation : BitVec 32) (noWait : Bool) :
    s.ListMoves (s.takeRequest r generation noWait) := by
  have denies (d : DenyReason) : s.ListMoves (s.deny r d) := s.deny_moves r d
  have errs (k : ProtocolKind) (d : DenyReason) : s.ListMoves ((s.protocolError k (some (regionByte r))).deny r d) :=
    State.ListMoves.trans (same (t := s.protocolError k (some (regionByte r))) ⟨rfl, rfl, rfl⟩)
      (State.deny_moves _ r d)
  unfold State.takeRequest State.requestInHere
  simp only []
  repeat' split
  any_goals exact same ⟨rfl, rfl, rfl⟩
  any_goals exact denies _
  any_goals exact errs _ _
  exact s.grantStep_moves r

theorem State.takeGrant_moves (s : State) (r : Fin 64) (generation : BitVec 32) (content : Option (List Word)) :
    s.ListMoves (s.takeGrant r generation content) := by
  unfold State.takeGrant State.grantAnswersClaim State.grantArrives
  simp only []
  repeat' split
  all_goals exact same (by simp)

theorem State.takeDeny_moves (s : State) (r : Fin 64) (reason : Byte) : s.ListMoves (s.takeDeny r reason) := by
  unfold State.takeDeny
  simp only []
  repeat' split
  all_goals exact same (by simp)

theorem State.takeUpdate_moves (s : State) (u : ReceivedUpdate) : s.ListMoves (s.takeUpdate u) := by
  refine State.onRegion_moves fun r => ?_
  unfold State.applyUpdate
  simp only []
  repeat' split
  all_goals exact same ⟨rfl, rfl, rfl⟩

theorem State.takeSync_moves (s : State) : s.ListMoves s.takeSync := by
  unfold State.takeSync
  repeat' split
  all_goals exact same (by simp)

theorem State.takeSnapshot_moves (s : State) (region : Byte) (sweep : BitVec 16) (generation : BitVec 32)
    (words : List Word) : s.ListMoves (s.takeSnapshot region sweep generation words) := by
  unfold State.takeSnapshot State.applySnapshot
  simp only []
  repeat' split
  all_goals exact same ⟨rfl, rfl, rfl⟩

theorem State.takeHelloFrame_moves (s : State) (epoch : BitVec 16) (b : HelloBody) :
    s.ListMoves (s.takeHelloFrame epoch b) := by
  have seeking (t : State) : t.ListMoves (t.helloInSeeking epoch b) := by
    unfold State.helloInSeeking
    split <;> exact same ⟨rfl, rfl, rfl⟩
  have session : s.ListMoves (s.helloInSession epoch b) := by
    unfold State.helloInSession State.confirmAgain
    split
    · repeat' split
      all_goals exact same ⟨rfl, rfl, rfl⟩
    · exact (s.linkLoss_moves _).andThen (seeking _)
  have joins (t : State) (ht : t.stream = s.stream ∧ t.dev = s.dev) (c : HelloContent) :
      s.ListMoves (t.completeJoin c) := (same (by simp [ht])).trans (t.completeJoin_moves c)
  have joining : s.ListMoves (s.helloInJoining epoch b) := by
    unfold State.helloInJoining
    simp only []
    split
    · split
      · exact joins _ (by simp) _
      · exact same ⟨rfl, rfl, rfl⟩
    split
    · exact same ⟨rfl, rfl, rfl⟩
    · exact same ⟨rfl, rfl, rfl⟩
  unfold State.takeHelloFrame
  split
  · exact seeking s
  · exact joining
  · exact session
  · exact session
  · exact refl s
  · exact refl s

/-! ## The retransmission timer and the take of a frame (R50, R55) -/

theorem State.retransmissionExpires_moves (s : State) : s.ListMoves s.retransmissionExpires := by
  unfold State.retransmissionExpires
  simp only []
  split
  · exact refl s
  split
  · exact State.ListMoves.trans (same (t := s.raise .retransmitRounds) ⟨rfl, rfl, rfl⟩) (State.linkLoss_moves _ _)
  · exact (marks s).then_same ⟨rfl, rfl, rfl⟩

theorem State.offeredIndex_of_sequencedChoice {s : State} {k : Nat} (h : s.sequencedChoice = some (.sequenced k)) :
    s.offeredIndex = some k := by
  unfold State.sequencedChoice at h
  split at h
  · simpa using h
  · cases h

/-- The sequenced frame that the arbiter chooses is the offered one (R109). -/
theorem State.offeredIndex_of_chooseFrame {s : State} {k : Nat} (h : s.chooseFrame = some (.sequenced k)) :
    s.offeredIndex = some k := by
  have hsession (hs : s.sessionChoice = some (.sequenced k)) : s.sequencedChoice = some (.sequenced k) := by
    unfold State.sessionChoice at hs
    split at hs
    · cases hs
    split at hs
    next c hc => exact hc.trans hs
    next =>
      repeat' split at hs
      all_goals cases hs
  unfold State.chooseFrame at h
  split at h
  · cases h
  split at h
  · split at h
    · exact State.offeredIndex_of_sequencedChoice (hsession h)
    · split at h <;> cases h
  · cases h

theorem State.takeFrame_moves (s : State) : s.ListMoves s.takeFrame := by
  have listed (t : State) (k : Nat) (hk : t.offeredIndex = some k) : t.ListMoves (t.takeListed k) := by
    unfold State.takeListed
    split
    next f hf => exact (sends t k f hk hf).then_same ⟨rfl, rfl, rfl⟩
    next => exact refl t
  have chosen (t : State) (c : FrameChoice) (hc : t.chooseFrame = some c) : t.ListMoves (t.takeChoice c) := by
    cases c
    case sequenced k => exact listed t k (State.offeredIndex_of_chooseFrame hc)
    case snapshot r =>
      simp only [State.takeChoice, State.sendSnapshot]
      split
      · exact t.enterFaulted_moves _
      · exact same (by simp)
    all_goals
      simp only [State.takeChoice, State.takeBye, State.takeHello, State.takeAck]
      repeat' split
      all_goals exact same ⟨rfl, rfl, rfl⟩
  have hsettle : s.ListMoves s.settleOffer := same (by simp)
  unfold State.takeFrame
  repeat' split
  · exact refl s
  next c hc => exact hsettle.trans (chosen _ c hc)
  · exact hsettle

/-! ## Every command, and the step -/

theorem State.helloReceived_moves (s : State) : s.ListMoves (s.effect .helloReceived) := by
  simp only [State.effect]
  exact State.takeHeld_moves fun t x => t.takeHelloFrame_moves _ _

/-- The sequenced frames: what each kind dispatches moves the list as `State.ListMoves` says. -/
theorem State.sequencedReceived_moves (s : State) :
    s.ListMoves (s.effect .updateReceived) ∧ s.ListMoves (s.effect .ownReqReceived) ∧
    s.ListMoves (s.effect .ownGrantReceived) ∧ s.ListMoves (s.effect .ownDenyReceived) ∧
    s.ListMoves (s.effect .syncDoneReceived) := by
  simp only [State.effect]
  exact ⟨s.receiveSequenced_moves _ State.takeUpdate_moves,
    s.receiveSequenced_moves _ fun t _ => State.onRegion_moves fun r => t.takeRequest_moves r _ _,
    s.receiveSequenced_moves _ fun t _ => State.onRegion_moves fun r => t.takeGrant_moves r _ _,
    s.receiveSequenced_moves _ fun t _ => State.onRegion_moves fun r => t.takeDeny_moves r _,
    s.receiveSequenced_moves _ fun t _ => t.takeSync_moves⟩

/-- The frames outside the sequence. -/
theorem State.plainReceived_moves (s : State) :
    s.ListMoves (s.effect .ackReceived) ∧ s.ListMoves (s.effect .snapshotReceived) ∧
    s.ListMoves (s.effect .idleReceived) ∧ s.ListMoves (s.effect .byeReceived) := by
  simp only [State.effect]
  exact ⟨State.takeHeld_moves fun t x => State.toStream_moves fun u => u.processAck_moves _,
    State.takeHeld_moves fun t x => State.toStream_moves fun u => u.takeSnapshot_moves _ _ _ _,
    State.takeHeld_moves fun t x => State.filtered_moves fun u => refl u,
    State.takeHeld_moves fun t x => State.filtered_moves fun u => u.linkLoss_moves _⟩

theorem State.effect_moves (s : State) (c : Instr) : s.ListMoves (s.effect c) := by
  cases c
  case perstNRelease => exact s.released_moves
  case start => exact s.startWritten_moves
  case stop => exact s.stopWritten_moves
  case reset => exact s.resetWritten_moves
  case clearFault => exact s.clearFaultWritten_moves
  case controlInvalidCode => exact s.controlWrite_moves _
  case registerWrite => exact s.writeWindow_moves _ _
  case producerIndexPost | completionConsumerPost | notificationConsumerPost | badPostSelector =>
    simp only [State.effect]
    exact s.postWrite_moves _ _
  case setupReadDone => exact s.setupEnds_moves _
  case recordFetchDone => exact s.fetchEnds_moves _ _
  case nop | fence | stats | queryRegion | hold | watchSet | watchClear | linkUp =>
    refine State.atHead_moves fun i e => ?_
    repeat' split
    all_goals exact same (by simp)
  case read =>
    refine State.atHead_moves fun i e => ?_
    repeat' split
    any_goals exact s.enterFaulted_moves _
    all_goals exact same (by simp)
  case write =>
    refine State.atHead_moves fun i e => ?_
    repeat' split
    any_goals exact same ⟨rfl, rfl, rfl⟩
    exact s.writeEffect_moves ..
  case claim =>
    refine State.atHead_moves fun i e => ?_
    split
    · exact s.claimEffect_moves ..
    · exact refl s
  case release =>
    refine State.atHead_moves fun i e => ?_
    split
    · exact s.releaseEffect_moves ..
    · exact refl s
  case unhold => exact s.unholdAtHead_moves
  case setClass =>
    refine State.atHead_moves fun i e => ?_
    unfold State.setClassEffect
    repeat' split
    all_goals exact same (by simp)
  case linkDown => exact s.linkDownAtHead_moves
  case stagingTransferDone => exact s.stagingEnds_moves _ _
  case readOutputDone => exact s.readOutputEnds_moves _ _
  case statsOutputDone => exact s.statsOutputEnds_moves _
  case completionWriteDone | notificationWriteDone =>
    simp only [State.effect, State.completionWriteEnds, State.notifyWriteEnds]
    repeat' split
    any_goals exact s.enterFaulted_moves _
    all_goals exact same (by simp)
  case frameTake => exact s.takeFrame_moves
  case helloReceived => exact s.helloReceived_moves
  case updateReceived => exact s.sequencedReceived_moves.1
  case ownReqReceived => exact s.sequencedReceived_moves.2.1
  case ownGrantReceived => exact s.sequencedReceived_moves.2.2.1
  case ownDenyReceived => exact s.sequencedReceived_moves.2.2.2.1
  case syncDoneReceived => exact s.sequencedReceived_moves.2.2.2.2
  case ackReceived => exact s.plainReceived_moves.1
  case snapshotReceived => exact s.plainReceived_moves.2.1
  case idleReceived => exact s.plainReceived_moves.2.2.1
  case byeReceived => exact s.plainReceived_moves.2.2.2
  case retransmissionTimerExpiry => exact s.retransmissionExpires_moves
  case deferralTimerExpiry r =>
    simp only [State.effect, State.deferralExpires]
    split
    · exact (s.deny_moves r _).then_same ⟨rfl, rfl, rfl⟩
    · exact refl s
  case silenceTimerExpiry =>
    simp only [State.effect, State.silenceExpires]
    split
    · exact s.linkLoss_moves _
    · exact refl s
  case sweepTimerExpiry =>
    simp only [State.effect, State.sweepExpires]
    split <;> exact same (by simp)
  case ringManagerStopReport => exact s.reports_move.1
  case notificationStopReport => exact s.reports_move.2
  case coldReset => exact same ⟨rfl, rfl, rfl⟩
  case recordPresentation | watchEvaluation | notificationTake => exact same (by simp [State.effect])
  case initDone | transmitEnd | receiveFrameEnd | helloTimerExpiry | quietTimerExpiry | linkActTimeout | startDelimiter
    | dataByte | codeError =>
    simp only [State.effect, State.initEnds, State.transmitEnds, State.frameEnds, State.frameBegins, State.helloExpires,
      State.quietExpires, State.linkActFalls, State.collecting]
    repeat' split
    all_goals exact same (by simp)

theorem step_moves {s t : State} (h : step s = .next t) : s.ListMoves t := by
  rcases step_cases h with rfl | ⟨c, rest, u, hu, ht⟩
  · exact refl _
  · have hrest : s.ListMoves u := by subst hu; exact same ⟨rfl, rfl, rfl⟩
    rcases ht with ⟨_, rfl⟩ | rfl | rfl | rfl
    · exact hrest.trans (u.effect_moves c)
    · exact hrest
    · exact hrest.then_same ⟨rfl, rfl, rfl⟩
    · exact hrest.trans u.released_moves

/-- Settles O57: a frame joins the list with the next number, an UPDATE only within 95; frames leave from the front, and
the other moves keep contents and numbers. -/
theorem stepKeepsListNumbered : Obligations.StepKeepsListNumbered := by
  unfold Obligations.StepKeepsListNumbered
  exact fun _ _ hs h => (step_moves h).listNumbered hs

/-- Settles O59: a frame joins the list unsent and behind the others, and only the offered frame is taken. -/
theorem stepKeepsWindow : Obligations.StepKeepsWindow := by
  unfold Obligations.StepKeepsWindow
  exact fun _ _ hs h => (step_moves h).windowKept hs

end Sys2Proof.Machine
end

section
/-! The batch of a WRITE: its frames, and its entry into the Transmit List with the commit (R46 to R48, R126, R127). -/

namespace Sys2Proof.Machine

/-! ## The frames of a batch (R47) -/

theorem writeBatch_short (fuel : Nat) (r : Fin 64) (offset : Nat) {words : List Word} (hne : words ≠ [])
    (h : words.length ≤ 16) :
    writeBatch (fuel + 1) r offset words =
      [.update (BitVec.ofNat 8 r.val) (BitVec.ofNat 8 offset) words true false false] := by
  rw [writeBatch, if_neg hne, if_pos (by exact h)]
  rfl

theorem writeBatch_long (fuel : Nat) (r : Fin 64) (offset : Nat) {words : List Word} (h : 16 < words.length) :
    writeBatch (fuel + 1) r offset words =
      .update (BitVec.ofNat 8 r.val) (BitVec.ofNat 8 offset) (words.take 16) false false false ::
        writeBatch fuel r (offset + 16) (words.drop 16) := by
  have hne : words ≠ [] := by rintro rfl; simp at h
  rw [writeBatch, if_neg hne, if_neg (by exact Nat.not_le.2 h)]
  rfl

theorem writeBatch_length {fuel : Nat} (r : Fin 64) (offset : Nat) {words : List Word} (h : words.length ≤ fuel) :
    (writeBatch fuel r offset words).length = (words.length + 15) / 16 := by
  induction fuel generalizing offset words with
  | zero => simp [List.length_eq_zero_iff.1 (Nat.le_zero.1 h), writeBatch]
  | succ n ih =>
    rcases eq_or_ne words [] with rfl | hne
    · simp [writeBatch]
    have hpos := List.length_pos_iff.2 hne
    by_cases hshort : words.length ≤ 16
    · rw [writeBatch_short n r offset hne hshort, List.length_singleton]
      omega
    · rw [writeBatch_long n r offset (Nat.not_le.1 hshort), List.length_cons, ih _ (by rw [List.length_drop]; omega),
        List.length_drop]
      omega

/-- Frame `k` of a batch carries the words from `16 k` on, at most 16; just the last one is marked. -/
theorem writeBatch_getElem? {fuel : Nat} (r : Fin 64) (offset : Nat) {words : List Word} (h : words.length ≤ fuel)
    {k : Nat} (hk : k < (words.length + 15) / 16) :
    (writeBatch fuel r offset words)[k]? = some (.update (BitVec.ofNat 8 r.val) (BitVec.ofNat 8 (offset + 16 * k))
      ((words.drop (16 * k)).take 16) (decide (k + 1 = (words.length + 15) / 16)) false false) := by
  induction fuel generalizing offset words k with
  | zero => omega
  | succ n ih =>
    have hne : words ≠ [] := by rintro rfl; simp at hk
    have hpos := List.length_pos_iff.2 hne
    by_cases hshort : words.length ≤ 16
    case pos =>
      obtain rfl : k = 0 := by omega
      have hone : (words.length + 15) / 16 = 1 := by omega
      simp [writeBatch_short n r offset hne hshort, hone, List.take_of_length_le hshort]
    case neg =>
      rw [writeBatch_long n r offset (Nat.not_le.1 hshort)]
      cases k with
      | zero =>
        have hmore : ¬ 0 + 1 = (words.length + 15) / 16 := by omega
        simp [hmore]
      | succ k =>
        have hrest : (words.drop 16).length ≤ n := by rw [List.length_drop]; omega
        have hcount : (words.length + 15) / 16 = ((words.drop 16).length + 15) / 16 + 1 := by
          rw [List.length_drop]; omega
        have hoffset : offset + 16 + 16 * k = offset + 16 * (k + 1) := by omega
        have hwords : 16 + 16 * k = 16 * (k + 1) := by omega
        rw [List.getElem?_cons_succ, ih (offset + 16) hrest (by omega), List.drop_drop, hoffset, hwords, hcount]
        simp

/-! ## The entry of a batch into the list (R46, R48) -/

/-- The frames of a batch join the list in order, numbered on from the next number. -/
theorem State.enqueueBatch_eq (s : State) (frames : List SeqContent) (owner : Option (Fin 32)) :
    s.enqueueBatch frames owner = { s with
      stream.list := s.stream.list ++ frames.mapIdx fun k c =>
        { content := c, seq := s.stream.nextSeq + BitVec.ofNat 8 k, sent := false, resend := false, owner := owner }
      stream.nextSeq := s.stream.nextSeq + BitVec.ofNat 8 frames.length } := by
  unfold State.enqueueBatch
  induction frames generalizing s with
  | nil => simp
  | cons c l ih =>
    have hnumber (k : Nat) : s.stream.nextSeq + 1 + BitVec.ofNat 8 k = s.stream.nextSeq + BitVec.ofNat 8 (k + 1) := by
      rw [BitVec.ofNat_add, BitVec.add_assoc, BitVec.add_comm 1]
      rfl
    rw [List.foldl_cons, ih]
    simp only [State.enqueueFor, State.enqueue, List.mapIdx_cons, List.length_cons, List.append_assoc,
      List.singleton_append, hnumber]
    simp

/-! ## The WRITE at the head -/

/-- A WRITE at the head whose words are there presents its batch where its region is ACKED and HERE and the session runs
(R125). -/
theorem State.HeadReady.write_presents {s : State} {i : Fin 32} {rest : List (Fin 32)} {e : OctEntry}
    (h : s.HeadReady i rest e) {r : Fin 64} {offset count : Nat} {source : WriteSource} {waitRemote : Bool}
    (hc : e.command = .write r offset count source waitRemote) (hbusy : s.stagingBusy e = false)
    (hfailed : s.stagingFailed e = false) (hcls : (s.region r).cls = .acked) (hhere : (s.region r).state = .here)
    (hstream : s.streaming = true) :
    exec .write s = .next (s.presentWrite i e r offset (s.writeWords e source) waitRemote) := by
  have hhead : s.writeAtHead = s.writeEffect i e r offset source waitRemote := by
    unfold State.writeAtHead
    rw [State.atHead_ready h, hc]
    simp [hbusy]
  have heffect : s.writeEffect i e r offset source waitRemote =
      s.presentWrite i e r offset (s.writeWords e source) waitRemote := by
    simp [State.writeEffect, hcls, hhere, hfailed, hstream]
  rw [exec_eq_effect h.1.1]
  exact congrArg _ (hhead.trans heffect)

/-- The slot that a WRITE gives up is no part of the queue or of the table. -/
theorem State.unstaged_head (s : State) (r : Fin 64) (e : OctEntry) :
    (s.unstaged r e).cmd.oct = s.cmd.oct ∧ (s.unstaged r e).cmd.queue = s.cmd.queue := by
  unfold State.unstaged State.freeStaging
  split <;> exact ⟨rfl, rfl⟩

theorem State.writeInfo_here {s : State} {r : Fin 64} (h : (s.region r).state = .here) (n : Nat) :
    s.writeInfo r n = { w0 := BitVec.ofNat 32 n, w1 := (s.region r).generation, w2 := 0 } := by
  simp [State.writeInfo, h, OwnState.code]

/-- Settles O17: the head rule and the three ends of `presentWrite`; the entry of a batch, and its frames. -/
theorem writeBatchEnters : Obligations.WriteBatchEnters := by
  unfold Obligations.WriteBatchEnters
  refine ⟨?_, State.enqueueBatch_eq, fun r offset words => ⟨writeBatch_length r offset le_rfl, fun k hk => ?_⟩⟩
  · intro s i rest e r offset count source waitRemote h hc hbusy hfailed hcls hhere hstream words frames info
    obtain ⟨_, hqueue, hentry, _⟩ := id h
    have hinfo : s.writeInfo r words.length = info := State.writeInfo_here hhere _
    rw [h.write_presents hc hbusy hfailed hcls hhere hstream]
    have hpresent : s.presentWrite i e r offset words waitRemote = if s.batchFits frames then
        (if waitRemote then
          (((s.enqueueBatch frames (some i)).apply r offset words .localHost).writeTakesEffect e r |>.awaitEvent i
            { e with staging := none, info := info }).grantIfDue r
        else ((s.enqueueBatch frames none).apply r offset words .localHost).writeCompletes i e r .ok info)
        else { s.setEntry i { e with phase := .executingWait } with stream.waitWrite := true } := by
      simp only [State.presentWrite, hstream, hinfo, frames, Bool.true_eq_false, if_false]
    refine ⟨fun hfits hlocal => ?_, fun hfits hremote => ?_, fun hfull => ?_⟩
    · have hroom : s.batchFits frames = true := decide_eq_true hfits
      rw [hpresent, if_pos hroom, hlocal, State.writeCompletes_eq (rest := rest)
        (by simpa using hentry) (by simpa using hqueue)]
      rfl
    · have hroom : s.batchFits frames = true := decide_eq_true hfits
      rw [hpresent, if_pos hroom, hremote, if_pos rfl, State.writeTakesEffect_eq,
        State.awaitEvent_eq (rest := rest) (by simpa [State.unstaged_head] using hqueue)]
    · have hroom : ¬ s.batchFits frames = true := fun h => Nat.not_le.2 hfull (of_decide_eq_true h)
      rw [hpresent, if_neg hroom]
      rfl
  · rw [writeBatch_length r offset le_rfl] at hk ⊢
    exact writeBatch_getElem? r offset le_rfl hk

end Sys2Proof.Machine
end

section
/-! The expiry of the retransmission timer, the epoch filter with the sequence check, and an UPDATE in order (03). -/

namespace Sys2Proof.Machine

/-! ## The retransmission timer (R54 to R56) -/

theorem State.streaming_iff (s : State) : s.streaming = true ↔ s.link.state = .syncing ∨ s.link.state = .up := by
  simp [State.streaming]

/-- In a session an expiry counts but in SYNCING before the first acknowledgement (R55). -/
theorem State.expiryCounts_iff {s : State} (h : s.streaming = true) :
    s.expiryCounts = true ↔ s.link.state = .up ∨ s.stream.sessionAcked = true := by
  rcases s.streaming_iff.1 h with hl | hl <;> simp [State.expiryCounts, hl]

theorem TxEntry.again_eq (t : TxEntry) : t.again = { t with resend := t.resend || t.sent } := by
  obtain ⟨content, seq, sent, resend, owner⟩ := t
  cases sent <;> simp [TxEntry.again]

/-- Settles O48: the two ends of an expiry with the timer running, by whether it counts and reaches the limit. -/
theorem retransmissionMarksOrLoses : Obligations.RetransmissionMarksOrLoses := by
  unfold Obligations.RetransmissionMarksOrLoses
  constructor
  · intro s units hp hstream htimer counts
    have hexec : exec .retransmissionTimerExpiry s = .next
        (if s.expiryCounts ∧ s.stream.retryCount = s.params.retryLimit then
          (s.counted .retransmitRounds).linkLoss .retry
        else { s.counted .retransmitRounds with
          stream.retryCount := if s.expiryCounts then s.stream.retryCount + 1 else s.stream.retryCount
          stream.list := s.stream.list.map TxEntry.again
          stream.timer := some s.params.ackTimeout }) := by
      rw [exec_eq_effect hp]
      simp only [State.effect, State.retransmissionExpires, hstream, htimer, State.raise_eq]
      rfl
    have hcounts : s.expiryCounts = true ↔ counts := State.expiryCounts_iff hstream
    rw [hexec]
    refine ⟨fun hc hlimit => by rw [if_pos ⟨hcounts.2 hc, hlimit⟩], fun hgoes => ?_⟩
    have hround : ¬ (s.expiryCounts = true ∧ s.stream.retryCount = s.params.retryLimit) := fun ⟨hc, hlimit⟩ =>
      hgoes.elim (fun hno => hno (hcounts.1 hc)) fun hne => hne hlimit
    have hmarks : TxEntry.again = fun f => { f with resend := f.resend || f.sent } := funext TxEntry.again_eq
    rw [if_neg hround, hmarks]
    simp only [hcounts, counts]
  · intro s htimer
    have hstays : s.retransmissionExpires = s := by simp [State.retransmissionExpires, htimer]
    rw [exec_eq_live _ (by simp) (by simp), live]
    simp only [State.effect, hstays, ite_self]

/-! ## The epoch filter (R81, R94) -/

theorem State.filtered_silent {s : State} (h : s.link.state = .off ∨ s.link.state = .seeking ∨ s.link.state = .rejected)
    (epoch : BitVec 16) (f : State → State) : s.filtered epoch f = s := by
  rcases h with h | h | h <;> simp [State.filtered, h, LinkState.hasPeer]

theorem State.filtered_stranger {s : State}
    (h : s.link.state = .joining ∨ s.link.state = .syncing ∨ s.link.state = .up) {epoch : BitVec 16}
    (hp : s.heardEpoch ≠ some epoch) (f : State → State) : s.filtered epoch f = s.counted .epochMismatch := by
  have hpeer := (LinkState.hasPeer_iff _).2 h
  simp [State.filtered, hpeer, hp, State.raise_eq]

theorem State.filtered_known {s : State} (h : s.link.state = .joining ∨ s.link.state = .syncing ∨ s.link.state = .up)
    {epoch : BitVec 16} (hp : s.heardEpoch = some epoch) (f : State → State) :
    s.filtered epoch f = f s.restartSilence := by
  have hpeer := (LinkState.hasPeer_iff _).2 h
  simp [State.filtered, hpeer, hp]

/-! ## Frames as they are handed on (R57, R94) -/

theorem State.Holds.receives {s : State} {epoch : BitVec 16} {seq acked : BitVec 8} {content : SeqContent}
    {rest : List Frame} (h : s.Holds { epoch := epoch, body := .sequenced seq acked content } rest) {α : Type}
    {kind : SeqContent → Option α} {a : α} (hk : kind content = some a) (dispatch : State → α → State) :
    s.receiveSequenced kind dispatch = State.toStream { s with framer.heldFrames := rest } epoch fun u =>
      u.takeSequenced seq acked fun v => dispatch v a :=
  State.takeHeld_holds h (kind := Frame.sequencedOf kind) (a := (epoch, seq, acked, a))
    (by simp [Frame.sequencedOf, Frame.asSequenced, hk]) _

/-- A sequenced frame goes to the receiving half, and from there to the dispatch of its kind (R57, R58). -/
theorem State.Holds.exec_sequenced {s : State} {epoch : BitVec 16} {seq acked : BitVec 8} {content : SeqContent}
    {rest : List Frame} (h : s.Holds { epoch := epoch, body := .sequenced seq acked content } rest) :
    ∃ dispatch : State → State, exec content.command s = .next
      (State.toStream { s with framer.heldFrames := rest } epoch fun u => u.takeSequenced seq acked dispatch) := by
  rw [exec_eq_effect h.1.1]
  cases content
  all_goals
    simp only [SeqContent.command, State.effect]
    exact ⟨_, congrArg _ (h.receives (by rfl) _)⟩

/-- Every frame but a HELLO meets the epoch filter; but for a BYE, one that passes it has no effect without a session
(R94). -/
theorem State.Holds.exec_filtered {s : State} {f : Frame} {rest : List Frame} (h : s.Holds f rest)
    (hh : f.body.isHello = false) : ∃ g : State → State,
      exec f.body.command s = .next (State.filtered { s with framer.heldFrames := rest } f.epoch g) ∧
      (f.body ≠ .bye → ∀ t : State, t.streaming = false → g t = t) := by
  obtain ⟨epoch, body⟩ := f
  have guarded (g : State → State) (t : State) (ht : t.streaming = false) : (if t.streaming then g t else t) = t := by
    simp [ht]
  cases body with
  | hello => simp [FrameBody.isHello] at hh
  | sequenced seq acked content =>
    obtain ⟨dispatch, hexec⟩ := h.exec_sequenced
    exact ⟨_, hexec, fun _ => guarded _⟩
  | ack value =>
    refine ⟨_, ?_, fun _ => guarded fun t => t.processAck value⟩
    rw [exec_eq_effect h.1.1]
    simp only [FrameBody.command, State.effect]
    exact congrArg _ (State.takeHeld_holds h (kind := Frame.asAck) (a := (epoch, value)) rfl _)
  | snapshot region sweep generation words =>
    refine ⟨_, ?_, fun _ => guarded fun t => t.takeSnapshot region sweep generation words⟩
    rw [exec_eq_effect h.1.1]
    simp only [FrameBody.command, State.effect]
    exact congrArg _ (State.takeHeld_holds h (kind := Frame.asSnapshot)
      (a := (epoch, region, sweep, generation, words)) rfl _)
  | idle =>
    refine ⟨id, ?_, fun _ _ _ => rfl⟩
    rw [exec_eq_effect h.1.1]
    simp only [FrameBody.command, State.effect]
    exact congrArg _ (State.takeHeld_holds h (kind := Frame.asIdle) (a := epoch) rfl _)
  | bye =>
    refine ⟨fun t => t.linkLoss .peerLeft, ?_, fun hbye => absurd rfl hbye⟩
    rw [exec_eq_effect h.1.1]
    simp only [FrameBody.command, State.effect]
    exact congrArg _ (State.takeHeld_holds h (kind := Frame.asBye) (a := epoch) rfl _)

/-- A sequenced frame whose acknowledgement field has been processed meets the sequence check (R57). -/
theorem State.Receives.exec_checked {s u : State} {seq acked : BitVec 8} {content : SeqContent}
    (h : s.Receives seq acked content u) (hseq : (seq - u.stream.expected).toNat ≠ 0) :
    exec content.command s = .next (if (seq - u.stream.expected).toNat ≤ 127 then u.counted .outOfOrder
      else { u.counted .duplicates with stream.ackDue := true }) := by
  obtain ⟨hstream, hnofault, epoch, rest, hholds, hpeer, rfl⟩ := h
  obtain ⟨dispatch, hexec⟩ := hholds.exec_sequenced
  have hstream' : (s.passed rest).streaming = true := hstream
  rw [hexec, State.toStream, State.filtered_peer (s := { s with framer.heldFrames := rest }) hstream hpeer]
  change Host.Outcome.next (if (s.passed rest).streaming then (s.passed rest).takeSequenced seq acked dispatch else _) = _
  simp only [hstream', if_true, State.takeSequenced, State.andThen, hnofault, if_false, hseq, State.raise_eq]

/-- Settles O39: the epoch filter by the link state and the epoch, and the sequence check by the distance of the number. -/
theorem onlyExpectedPeerFramesPass : Obligations.OnlyExpectedPeerFramesPass := by
  unfold Obligations.OnlyExpectedPeerFramesPass
  refine ⟨fun s f rest h hh hlink => ?_, fun s f rest h hh hlink hpeer => ?_,
    fun s f rest h hh hbye hlink hpeer => ?_, fun s epoch rest h hstream hpeer => ?_,
    fun s epoch rest h hlink hpeer => ?_, fun s u seq acked content h => ⟨fun hlow hhigh => ?_, fun hfar => ?_⟩⟩
  · obtain ⟨g, hexec, _⟩ := h.exec_filtered hh
    rw [hexec, State.filtered_silent (s := { s with framer.heldFrames := rest }) hlink]
  · obtain ⟨g, hexec, _⟩ := h.exec_filtered hh
    rw [hexec, State.filtered_stranger (s := { s with framer.heldFrames := rest }) hlink hpeer]
  · obtain ⟨g, hexec, hstays⟩ := h.exec_filtered hh
    rw [hexec, State.filtered_known (s := { s with framer.heldFrames := rest }) (.inl hlink) hpeer,
      hstays hbye _ (by simp [State.streaming, State.restartSilence, hlink])]
    rfl
  · rw [exec_eq_effect h.1.1, State.effect, State.takeHeld_holds h (kind := Frame.asIdle) (a := epoch) rfl,
      State.filtered_peer (s := { s with framer.heldFrames := rest }) hstream hpeer]
    rfl
  · rw [exec_eq_effect h.1.1, State.effect, State.takeHeld_holds h (kind := Frame.asBye) (a := epoch) rfl,
      State.filtered_known (s := { s with framer.heldFrames := rest }) hlink hpeer]
    rfl
  · rw [h.exec_checked (Nat.pos_iff_ne_zero.1 hlow), if_pos hhigh]
  · rw [h.exec_checked (by omega), if_neg (by omega)]

/-! ## UPDATE in order (R58 to R61) -/

theorem State.onRegion_outOfRange {s : State} {region : Byte} (h : 64 ≤ region.toNat) (f : Fin 64 → State) :
    s.onRegion region f = s.withProtocolError .regionRange (some region) := by
  simp [State.onRegion, regionOfByte, Nat.not_lt.2 h, State.protocolError_eq]

/-- The checks of R59 and R60 in order, for a region number in range. -/
theorem State.takeUpdate_eq (s : State) (r : Fin 64) (offset : Byte) (words : List Word) (last : Bool) :
    s.takeUpdate ⟨BitVec.ofNat 8 r.val, offset, words, last⟩ =
      if (s.region r).cls = .off then s.withProtocolError .regionOff (some (BitVec.ofNat 8 r.val))
      else if 64 < offset.toNat + words.length then s.withProtocolError .updateRange (some (BitVec.ofNat 8 r.val))
      else if (s.region r).cls = .cyclic then s.withProtocolError .updateClass (some (BitVec.ofNat 8 r.val))
      else if (s.region r).state = .here ∨ (s.region r).state = .granting then
        s.withProtocolError .updateState (some (BitVec.ofNat 8 r.val))
      else s.applyUpdate r ⟨BitVec.ofNat 8 r.val, offset, words, last⟩ := by
  unfold State.takeUpdate
  cases hcls : (s.region r).cls with
  | off => rw [State.onRegion_off hcls, if_pos rfl]
  | cyclic => simp [State.onRegion_mirrored (s := s) (r := r) (by simp [hcls]), State.protocolError_eq, hcls]
  | acked =>
    rw [State.onRegion_mirrored (by simp [hcls])]
    cases hstate : (s.region r).state <;> simp [State.protocolError_eq, hcls]

/-- Settles O41: the dispatch of a frame in order, and the checks of R59 and R60 in order. -/
theorem updateReceivedIsApplied : Obligations.UpdateReceivedIsApplied := by
  unfold Obligations.UpdateReceivedIsApplied
  refine ⟨fun s u seq acked region offset words last refresh lastOfRegion h hseq hrange => ?_,
    fun s u seq acked region reason generation noWait grant content hcontent h hseq hrange => ?_, ?_⟩
  · exact (h.dispatch (kind := SeqContent.asUpdate) rfl State.takeUpdate hseq).trans
      (congrArg _ (State.onRegion_outOfRange hrange _))
  · simp only [List.mem_cons, List.not_mem_nil, or_false] at hcontent
    rcases hcontent with rfl | rfl | rfl
    · exact (h.dispatch (kind := SeqContent.asRequest) rfl
        (fun v x => v.onRegion x.1 fun q => v.takeRequest q x.2.1 x.2.2) hseq).trans
        (congrArg _ (State.onRegion_outOfRange hrange _))
    · exact (h.dispatch (kind := SeqContent.asGrant) rfl
        (fun v x => v.onRegion x.1 fun q => v.takeGrant q x.2.1 x.2.2) hseq).trans
        (congrArg _ (State.onRegion_outOfRange hrange _))
    · exact (h.dispatch (kind := SeqContent.asDenial) rfl
        (fun v x => v.onRegion x.1 fun q => v.takeDeny q x.2) hseq).trans
        (congrArg _ (State.onRegion_outOfRange hrange _))
  · intro s u seq acked r offset words last refresh lastOfRegion h hseq applied
    refine (h.dispatch (kind := SeqContent.asUpdate) rfl State.takeUpdate hseq).trans (congrArg _ ?_)
    refine (u.inOrder.takeUpdate_eq r offset words (refresh && lastOfRegion)).trans ?_
    simp only [State.applyUpdate, Bool.and_eq_true]
    rfl

end Sys2Proof.Machine
end

section
/-! The transmit arbiter: its choice, and the take of every frame but a snapshot (R49 to R51, R107 to R111). -/

namespace Sys2Proof.Machine

/-! ## The arbiter's choice (R108, R109) -/

/-- With the pair free a chosen frame other than a snapshot is taken as it stands. -/
theorem State.takeFrame_chosen {s : State} (hfree : s.framer.transmitting = none) {c : FrameChoice}
    (hc : s.chooseFrame = some c) (hsnap : ∀ r, c ≠ .snapshot r) : s.takeFrame = s.takeChoice c := by
  have hsettled : s.settleOffer = s := by
    unfold State.settleOffer
    split
    next r hr => exact absurd (Option.some.inj (hc.symm.trans hr)) (hsnap r)
    next => rfl
  simp [State.takeFrame, hfree, hsettled, hc]

theorem State.takeFrame_none {s : State} (hc : s.chooseFrame = none) : s.takeFrame = s := by
  simp [State.takeFrame, State.settleOffer, hc]

theorem State.chooseFrame_bye {s : State} (h : s.byeReady = true) : s.chooseFrame = some .bye := by
  simp [State.chooseFrame, h]

theorem State.byeReady_none {s : State} (h : s.framer.bye = none) : s.byeReady = false := by
  simp [State.byeReady, h]

/-- Without a BYE a working part chooses by whether a session runs. -/
theorem State.chooseFrame_working {s : State} (hb : s.framer.bye = none) (hw : s.working = true) :
    s.chooseFrame = if s.streaming then s.sessionChoice else if s.framer.hello.isSome then some .hello else none := by
  simp [State.chooseFrame, State.byeReady_none hb, hw]

theorem State.chooseFrame_idle {s : State} (hb : s.byeReady = false) (hw : s.working = false) : s.chooseFrame = none := by
  simp [State.chooseFrame, hb, hw]

/-- In a session with no confirming HELLO to send: the offered sequenced frame in its turn, an ACK, a snapshot, an IDLE. -/
theorem State.chooseFrame_session {s : State} (hb : s.framer.bye = none) (hw : s.working = true)
    (hs : s.streaming = true) (hh : s.link.confirmDue = false ∨ s.framer.hello = none) :
    s.chooseFrame = match s.sequencedChoice with
      | some c => some c
      | none => if s.stream.ackDue then some .ack else
        match s.sweep.offered with
        | some r => some (.snapshot r)
        | none => if s.framer.idleDue then some .idle else none := by
  have hconfirm : ¬ (s.link.confirmDue = true ∧ s.framer.hello.isSome = true) := by
    rcases hh with hh | hh <;> simp [hh]
  exact (State.chooseFrame_working hb hw).trans ((if_pos hs).trans (if_neg hconfirm))

theorem State.sequencedTurn_iff (s : State) :
    s.sequencedTurn = true ↔ s.sweep.offered = none ∨ s.framer.turnCount < 4 := by
  rw [State.sequencedTurn, Bool.or_eq_true, Option.isNone_iff_eq_none, decide_eq_true_iff]
  rfl

theorem State.sequencedChoice_turn {s : State} (h : s.sweep.offered = none ∨ s.framer.turnCount < 4) :
    s.sequencedChoice = s.offeredIndex.map .sequenced := if_pos (s.sequencedTurn_iff.2 h)

theorem State.sequencedChoice_none {s : State}
    (h : ¬ (s.sweep.offered = none ∨ s.framer.turnCount < 4) ∨ s.offeredIndex = none) : s.sequencedChoice = none := by
  unfold State.sequencedChoice
  rcases h with h | h
  · exact if_neg (mt s.sequencedTurn_iff.1 h)
  · simp [h]

/-! ## The takes (R50, R111) -/

theorem State.takeBye_eq {s : State} {epoch : BitVec 16} (h : s.framer.bye = some epoch) :
    s.takeBye = { s with framer.bye := none }.sending epoch .bye := by
  simp only [State.takeBye, h, State.transmit_eq]

theorem State.takeHello_eq {s : State} {b : HelloBody} (h : s.framer.hello = some b) :
    s.takeHello = { s with
      framer.hello := none, link.confirmDue := if b.joined then false else s.link.confirmDue }.sending s.link.epoch
        (.hello b) := by
  simp only [State.takeHello, h, State.transmit_eq]

theorem State.takeListed_eq {s : State} {k : Nat} {f : TxEntry} (h : s.stream.list[k]? = some f) :
    s.takeListed k = { s with
      stream.list := s.stream.list.set k { f with sent := true, resend := false }
      stream.ackDue := false
      stream.timer := some (s.stream.timer.getD s.params.ackTimeout)
      framer.turnCount := if s.sweep.offered.isSome then min (s.framer.turnCount + 1) 4 else s.framer.turnCount
      }.sending s.link.epoch (.sequenced f.seq (s.stream.expected - 1) f.content) := by
  simp only [State.takeListed, h, State.transmit_eq]
  rfl

/-- Settles O30: the arbiter's choice by the states of the link and the part, the changes of each take, and the offered
frame. -/
theorem frameTakeFollowsArbiter : Obligations.FrameTakeFollowsArbiter := by
  unfold Obligations.FrameTakeFollowsArbiter
  refine ⟨?_, ?_, ?_, ?_, ?_, ?_, ?_, fun s k => State.offeredIndex_some, State.offeredIndex_none_iff⟩
  · intro s epoch hp hfree hbye hfault
    have hready : s.byeReady = true := s.byeReady_iff.2 ⟨by simp [hbye], hfault⟩
    rw [exec_eq_effect hp]
    exact congrArg _ ((State.takeFrame_chosen hfree (State.chooseFrame_bye hready) (by simp)).trans
      (State.takeBye_eq hbye))
  · intro s hp hfault hlink
    have hready : s.byeReady = false := by
      rcases hlink with h | h | h <;> simp [State.byeReady, hfault, h, LinkState.hasPeer]
    rw [exec_eq_effect hp]
    exact congrArg _ (State.takeFrame_none (State.chooseFrame_idle hready (State.not_working_of_faulted hfault)))
  · intro s b hworks hfree hbye hhello hlink
    have hchoice : s.chooseFrame = some .hello := by
      rw [State.chooseFrame_working hbye hworks.2]
      rcases hlink with hsilent | hconfirm
      · simp [hsilent, hhello]
      · cases s.streaming <;> simp [State.sessionChoice, hconfirm, hhello]
    rw [exec_eq_effect hworks.1]
    exact congrArg _ ((State.takeFrame_chosen hfree hchoice (by simp)).trans (State.takeHello_eq hhello))
  · intro s hworks hfree hbye hstream hconfirm turn
    have hchoice := State.chooseFrame_session hbye hworks.2 hstream hconfirm
    rw [exec_eq_effect hworks.1]
    refine ⟨fun k f hturn hoffered hf => ?_, fun hnone hack => ?_, fun hnone hack hoffered => ?_⟩
    · rw [State.sequencedChoice_turn hturn, hoffered] at hchoice
      exact congrArg _ ((State.takeFrame_chosen hfree hchoice (by simp)).trans (State.takeListed_eq hf))
    · simp only [State.sequencedChoice_none hnone, hack, if_true] at hchoice
      exact congrArg _ ((State.takeFrame_chosen hfree hchoice (by simp)).trans (State.transmit_eq _ _ _))
    · simp only [State.sequencedChoice_none (.inr hnone), hack, hoffered] at hchoice
      cases hidle : s.framer.idleDue
      · exact congrArg _ (State.takeFrame_none (by simpa [hidle] using hchoice))
      · exact congrArg _ ((State.takeFrame_chosen hfree (c := .idle) (by simpa [hidle] using hchoice) (by simp)).trans
          (State.transmit_eq _ _ _))
  · intro s hworks _ hbye hsilent hhello
    rw [exec_eq_effect hworks.1]
    exact congrArg _ (State.takeFrame_none (by simp [State.chooseFrame_working hbye hworks.2, hsilent, hhello]))
  · intro s hp hbye hw
    rw [exec_eq_effect hp]
    exact congrArg _ (State.takeFrame_none (State.chooseFrame_idle (State.byeReady_none hbye) hw))
  · intro s hbusy
    have hstays : s.takeFrame = s := if_pos hbusy
    rw [exec_eq_live _ (by simp) (by simp), live]
    simp only [State.effect, hstays, ite_self]

end Sys2Proof.Machine
end

section
/-! Received snapshots, and the expiry of the sweep timer (04). -/

namespace Sys2Proof.Machine

/-! ## Received snapshots (R73, R74) -/

theorem regionOfByte_outOfRange {b : Byte} (h : 64 ≤ b.toNat) : regionOfByte b = none := by
  simp [regionOfByte, Nat.not_lt.2 h]

theorem newerSweep_iff (last : Option (BitVec 16)) (sweep : BitVec 16) : newerSweep last sweep = true ↔
    ∀ n, last = some n → 1 ≤ (sweep - n).toNat ∧ (sweep - n).toNat ≤ 32767 := by
  cases last <;> simp [newerSweep]

theorem RegionEntry.acceptsSnapshot_iff (e : RegionEntry) (sweep : BitVec 16) (generation : BitVec 32) :
    e.acceptsSnapshot sweep generation = true ↔ e.cls = .cyclic ∧ (e.state = .there ∨ e.state = .claiming) ∧
      generation = e.generation ∧
      ∀ last, e.lastSweep = some last → 1 ≤ (sweep - last).toNat ∧ (sweep - last).toNat ≤ 32767 := by
  simp only [RegionEntry.acceptsSnapshot, Bool.and_eq_true, Bool.or_eq_true, decide_eq_true_eq, newerSweep_iff,
    and_assoc]

theorem State.applySnapshot_eq (s : State) (r : Fin 64) (sweep : BitVec 16) (words : List Word) :
    let applied := (s.apply r 0 words .peer).withRegion r
      { s.region r with lastSweep := some sweep, age := 0, stale := false }
    s.applySnapshot r sweep words =
      if (s.region r).stale then applied.withEvent (.cyclicFresh r) else applied := rfl

theorem State.takeSnapshot_outOfRange {s : State} {region : Byte} (h : 64 ≤ region.toNat) (sweep : BitVec 16)
    (generation : BitVec 32) (words : List Word) :
    s.takeSnapshot region sweep generation words = s.counted .snapshotsStale := by
  simp only [State.takeSnapshot, regionOfByte_outOfRange h, State.raise_eq]

theorem State.takeSnapshot_eq (s : State) (r : Fin 64) (sweep : BitVec 16) (generation : BitVec 32)
    (words : List Word) : s.takeSnapshot (BitVec.ofNat 8 r.val) sweep generation words =
      if (s.region r).acceptsSnapshot sweep generation then s.applySnapshot r sweep words
      else s.counted .snapshotsStale := by
  simp only [State.takeSnapshot, regionOfByte_ofNat, State.raise_eq]

/-- In a session a SNAPSHOT of the recorded peer passes the epoch filter and is tested (R73, R94). -/
theorem State.Holds.exec_snapshot {s : State} {epoch : BitVec 16} {region : Byte} {sweep : BitVec 16}
    {generation : BitVec 32} {words : List Word} {rest : List Frame}
    (h : s.Holds { epoch := epoch, body := .snapshot region sweep generation words } rest)
    (hstream : s.streaming = true) (hpeer : s.heardEpoch = some epoch) :
    exec .snapshotReceived s = .next ((s.passed rest).takeSnapshot region sweep generation words) := by
  have hstream' : (s.passed rest).streaming = true := hstream
  rw [exec_eq_effect h.1.1, State.effect,
    State.takeHeld_holds h (kind := Frame.asSnapshot) (a := (epoch, region, sweep, generation, words)) rfl,
    State.toStream, State.filtered_peer (s := { s with framer.heldFrames := rest }) hstream hpeer]
  exact congrArg _ (if_pos hstream')

/-- Settles O47: the region number out of range, and the tests of R73 on the region it names. -/
theorem snapshotReceivedIfNewer : Obligations.SnapshotReceivedIfNewer := by
  unfold Obligations.SnapshotReceivedIfNewer
  constructor
  · intro s epoch region sweep generation words rest h hstream hpeer hrange
    rw [h.exec_snapshot hstream hpeer, State.takeSnapshot_outOfRange hrange]
  · intro s epoch r sweep generation words rest h hstream hpeer accepted applied
    have htests : ((s.passed rest).region r).acceptsSnapshot sweep generation = true ↔ accepted :=
      (s.region r).acceptsSnapshot_iff sweep generation
    rw [h.exec_snapshot hstream hpeer, State.takeSnapshot_eq]
    refine ⟨fun haccepted => ?_, fun hrefused => ?_⟩
    · rw [if_pos (htests.2 haccepted), State.applySnapshot_eq]
      rfl
    · rw [if_neg (mt htests.1 hrefused)]

/-! ## Groups of events in a free order (R164) -/

theorem State.event_fold_queue (l : List Event) (s : State) :
    (l.foldl State.event s).notif.queue = s.notif.queue ++ l.map .event := by
  induction l generalizing s with
  | nil => simp
  | cons e l ih =>
    rw [List.foldl_cons, ih, State.event_eq, List.map_cons]
    simp [State.withEvent]

@[simp] theorem State.eventGroups_blocks (s : State) (groups : List (List Event)) :
    (s.eventGroups groups).mirror = s.mirror ∧ (s.eventGroups groups).rings = s.rings ∧
    (s.eventGroups groups).cmd = s.cmd ∧ (s.eventGroups groups).sweep = s.sweep ∧
    (s.eventGroups groups).framer = s.framer := by
  simp [State.eventGroups]

/-- Two groups, the empty ones left out, come one after the other, in either order. -/
theorem freeOrder_groups {α : Type} (choice : Nat) (a b : List α) :
    (freeOrder choice ([a, b].filter fun g => !g.isEmpty)).flatten = a ++ b ∨
    (freeOrder choice ([a, b].filter fun g => !g.isEmpty)).flatten = b ++ a := by
  have hperm := freeOrder_perm choice ([a, b].filter fun g => !g.isEmpty)
  cases a with
  | nil => cases b <;> left <;> simp [freeOrder, freeOrderAux]
  | cons x a =>
    cases b with
    | nil => left; simp [freeOrder, freeOrderAux]
    | cons y b =>
      rcases List.perm_pair.1 hperm with h | h
      · left; rw [h]; simp
      · right; rw [h]; simp

/-- Two groups join the queue in one of the two orders (log entry 13). -/
theorem State.eventGroups_queue (s : State) (a b : List Event) :
    (s.eventGroups ([a, b].filter fun g => !g.isEmpty)).notif.queue = s.notif.queue ++ a.map .event ++ b.map .event ∨
    (s.eventGroups ([a, b].filter fun g => !g.isEmpty)).notif.queue =
      s.notif.queue ++ b.map .event ++ a.map .event := by
  rw [State.eventGroups, State.event_fold_queue]
  rcases freeOrder_groups s.choices a b with horder | horder
  · left
    simp [horder]
  · right
    simp [horder]

/-! ## What an expiry of the sweep timer does to the sweep (R67, R68, R71) -/

/-- The sweep starts at the first region it visits, or ends where it visits none (R67, R71). -/
theorem State.startSweep_eq (s : State) : s.startSweep = { s with
    sweep := { s.sweep with
      number := s.sweep.number + 1, cursor := s.sweepTarget 0, offered := s.sweepTarget 0
      overrun := if (s.sweepTarget 0).isSome then s.sweep.overrun else false }
    framer.turnCount := if (s.sweepTarget 0).isSome then s.framer.turnCount else 0 } := by
  unfold State.startSweep
  cases s.sweepTarget 0 <;> rfl

/-- The state with the sweep timer restarted, on which an expiry does the rest; `sweepExpires_running` ties it to the
expiry (R66). -/
def State.sweepRestarted (s : State) : State := { s with sweep.timer := some s.params.sweepPeriod }

@[simp] theorem State.sweepRestarted_frame (s : State) :
    s.sweepRestarted.dev = s.dev ∧ s.sweepRestarted.mirror = s.mirror ∧ s.sweepRestarted.regions = s.regions ∧
    s.sweepRestarted.rings = s.rings ∧ s.sweepRestarted.cmd = s.cmd ∧ s.sweepRestarted.stream = s.stream ∧
    s.sweepRestarted.link = s.link ∧ s.sweepRestarted.framer = s.framer ∧ s.sweepRestarted.notif = s.notif :=
  ⟨rfl, rfl, rfl, rfl, rfl, rfl, rfl, rfl, rfl⟩

/-- With a sweep in progress the expiry is an overrun (R68). -/
theorem State.sweepTick_overrun {s : State} (h : s.sweep.cursor.isSome = true) :
    s.sweepRestarted.sweepTick = { s.counted .sweepOverruns with
      sweep := { s.sweep with timer := some s.params.sweepPeriod, pending := true, overrun := true } } := by
  have htick : s.sweepRestarted.sweepTick = s.sweepRestarted.overrunTaken := if_pos h
  rw [htick, State.overrunTaken, State.raise_eq]
  rfl

/-- With no sweep in progress the expiry starts one (R67). -/
theorem State.sweepTick_start {s : State} (h : s.sweep.cursor = none) :
    s.sweepRestarted.sweepTick = { s with
      sweep := { s.sweep with
        timer := some s.params.sweepPeriod, number := s.sweep.number + 1, cursor := s.sweepTarget 0
        offered := s.sweepTarget 0, overrun := if (s.sweepTarget 0).isSome then s.sweep.overrun else false }
      framer.turnCount := if (s.sweepTarget 0).isSome then s.framer.turnCount else 0 } := by
  have htick : s.sweepRestarted.sweepTick = s.sweepRestarted.startSweep := by
    simp [State.sweepTick, State.sweepRestarted, h]
  rw [htick, State.startSweep_eq]
  rfl

@[simp] theorem State.sweepTick_blocks (s : State) :
    s.sweepTick.mirror = s.mirror ∧ s.sweepTick.rings = s.rings ∧ s.sweepTick.cmd = s.cmd ∧
    s.sweepTick.notif = s.notif := by
  unfold State.sweepTick State.overrunTaken
  split <;> simp

/-! ## Receive ages (R75, R76) -/

theorem RegionEntry.ages_iff (e : RegionEntry) : e.ages = true ↔ e.cls = .cyclic ∧ e.state = .there ∧ e.age < 255 := by
  simp only [RegionEntry.ages, Bool.and_eq_true, decide_eq_true_eq, and_assoc]
  exact Iff.rfl

theorem RegionEntry.growsStale_iff (limit : Nat) (e : RegionEntry) : e.growsStale limit = true ↔
    (e.cls = .cyclic ∧ e.state = .there ∧ e.age < 255) ∧ limit ≠ 0 ∧ e.age + 1 = limit ∧ e.stale = false := by
  simp only [RegionEntry.growsStale, Bool.and_eq_true, RegionEntry.ages_iff, decide_eq_true_eq, Bool.not_eq_true',
    and_assoc]

theorem RegionEntry.aged_still {e : RegionEntry} (h : ¬ (e.cls = .cyclic ∧ e.state = .there ∧ e.age < 255))
    (limit : Nat) : e.aged limit = e := if_neg (mt e.ages_iff.1 h)

/-- An entry that ages is stale afterwards where it was before or its age meets the limit (R75, R76). -/
theorem RegionEntry.aged_rises {e : RegionEntry} (h : e.cls = .cyclic ∧ e.state = .there ∧ e.age < 255) (limit : Nat) :
    e.aged limit = { e with
      age := e.age + 1
      lastSweep := if e.age + 1 = 255 then none else e.lastSweep
      stale := e.stale || decide (limit ≠ 0 ∧ e.age + 1 = limit) } := by
  have hages := e.ages_iff.2 h
  have hstale : (e.stale || e.growsStale limit) = (e.stale || decide (limit ≠ 0 ∧ e.age + 1 = limit)) := by
    cases hs : e.stale <;> simp [RegionEntry.growsStale, hages, hs]
  rw [RegionEntry.aged, if_pos hages, hstale]
  rfl

/-! ## The sweep timer (R66 to R68, R75, R76) -/

theorem State.overrunEvents_submitted (s : State) : s.overrunEvents.map .event =
    if s.sweep.cursor.isSome = true ∧ s.sweep.overrun = false then
      [Submission.event (.sweepOverrun (s.counted .sweepOverruns).dev.counters[9])] else [] := by
  have hcounter : saturatingSucc (s.counter .sweepOverruns) = (s.counted .sweepOverruns).dev.counters[9] := by
    simp [← State.raise_eq, State.raise, Counter.index]
  rw [State.overrunEvents, hcounter]
  split <;> rfl

theorem State.staleEvents_submitted (s : State) : s.staleEvents.map .event = (List.finRange 64).filterMap fun r =>
    if ((s.region r).cls = .cyclic ∧ (s.region r).state = .there ∧ (s.region r).age < 255) ∧ s.params.staleLimit ≠ 0 ∧
      (s.region r).age + 1 = s.params.staleLimit ∧ (s.region r).stale = false
    then some (Submission.event (.cyclicStale r)) else none := by
  rw [State.staleEvents, List.map_filterMap]
  refine List.filterMap_congr fun r _ => ?_
  simp only [← RegionEntry.growsStale_iff]
  split <;> rfl

/-- An expiry with the timer running: the sweep's part, then the ages, then the events in groups. -/
theorem State.sweepExpires_running {s : State} {ms : Nat} (h : s.sweep.timer = some ms) : s.sweepExpires =
    (s.sweepRestarted.sweepTick.mapRegions fun _ e => e.aged s.params.staleLimit).eventGroups
      ([s.overrunEvents, s.staleEvents].filter fun g => !g.isEmpty) := by
  simp only [State.sweepExpires, h, State.sweepRestarted]

theorem State.region_sweepExpires {s : State} {ms : Nat} (h : s.sweep.timer = some ms) (r : Fin 64) :
    s.sweepExpires.region r = (s.region r).aged s.params.staleLimit := by
  rw [s.sweepExpires_running h]
  simp [State.region, State.mapRegions]

/-- Settles O50: the sweep's part, the ages and the events of an expiry with the timer running. -/
theorem sweepTimerExpires : Obligations.SweepTimerExpires := by
  unfold Obligations.SweepTimerExpires
  constructor
  · intro s ms hp htimer ages growsStale overruns stales
    have hexec : exec .sweepTimerExpiry s = .next s.sweepExpires := exec_eq_effect hp _
    have hregion := State.region_sweepExpires htimer
    rw [hexec]
    rw [State.sweepExpires_running htimer] at hregion ⊢
    refine ⟨_, rfl, ?_, fun r => ⟨fun hstill => ?_, fun hages => ?_⟩, fun hcursor => ?_, fun hcursor => ?_, by simp⟩
    · have hoverruns : s.overrunEvents.map .event = overruns := s.overrunEvents_submitted
      have hstales : s.staleEvents.map .event = stales := s.staleEvents_submitted
      simpa [hoverruns, hstales] using
        (s.sweepRestarted.sweepTick.mapRegions fun _ e => e.aged s.params.staleLimit).eventGroups_queue s.overrunEvents
          s.staleEvents
    · rw [hregion, RegionEntry.aged_still hstill]
    · rw [hregion, RegionEntry.aged_rises hages]
    · rw [State.sweepTick_overrun hcursor]
      simp [State.counted]
    · rw [State.sweepTick_start hcursor]
      simp
  · intro s htimer
    have hstays : s.sweepExpires = s := by simp [State.sweepExpires, htimer]
    rw [exec_eq_live _ (by simp) (by simp), live]
    simp only [State.effect, hstays, ite_self]

end Sys2Proof.Machine
end

section
/-! LINK_UP at the head, a HELLO in SEEKING, OFF and REJECTED, SYNC_DONE in order, and the timers of the link (05). -/

namespace Sys2Proof.Machine

/-! ## LINK_UP (R82) -/

theorem State.HeadReady.exec_linkUp {s : State} {i : Fin 32} {rest : List (Fin 32)} {e : OctEntry}
    (h : s.HeadReady i rest e) (hc : e.command = .linkUp) :
    exec .linkUp s = .next (if s.link.state = .off ∨ s.link.state = .rejected then
      s.enterSeeking.headDone i rest e .ok s.enterSeeking.linkInfo else s.headDone i rest e .ok s.linkInfo) := by
  have hx : exec .linkUp s = _ := h.live_atHead fun t i e => match e.command with
    | .linkUp =>
      if t.link.state = .off ∨ t.link.state = .rejected then t.enterSeeking.finishHead i .ok t.enterSeeking.linkInfo
      else t.finishHead i .ok t.linkInfo
    | _ => t
  rw [hx]
  simp only [hc, h.finish rfl, h.finish (t := s.enterSeeking) rfl]

/-- Settles O26: the head rule, and the two rows of R82 by the link state. -/
theorem linkUpEntersSeeking : Obligations.LinkUpEntersSeeking := by
  unfold Obligations.LinkUpEntersSeeking
  refine ⟨fun s i rest e h hc hlink => ?_, fun s i rest e h hc hlink => ?_⟩
  · rw [h.exec_linkUp hc, if_pos hlink]
    rfl
  · have hno : ¬ (s.link.state = .off ∨ s.link.state = .rejected) := by
      rcases hlink with hl | hl | hl | hl <;> simp [hl]
    rw [h.exec_linkUp hc, if_neg hno]
    rfl

/-! ## HELLO in SEEKING, OFF and REJECTED (R81, R87, R88) -/

/-- These frames are the ones held for handing. -/
def State.withHeld (s : State) (frames : List Frame) : State := { s with framer.heldFrames := frames }

theorem State.withHeld_self {s : State} {frames : List Frame} (h : s.framer.heldFrames = frames) :
    s.withHeld frames = s := by
  subst h
  rfl

@[simp] theorem State.withHeld_withHeld (s : State) (l m : List Frame) : (s.withHeld l).withHeld m = s.withHeld m := rfl

@[simp] theorem State.withHeld_frame (s : State) (l : List Frame) :
    (s.withHeld l).link = s.link ∧ (s.withHeld l).dev = s.dev ∧ (s.withHeld l).framer.heldFrames = l := ⟨rfl, rfl, rfl⟩

theorem State.Works.holds {s : State} (h : s.Works) (f : Frame) (rest : List Frame) :
    (s.withHeld (f :: rest)).Holds f rest := ⟨h, rfl⟩

theorem State.Holds.exec_hello {s : State} {epoch : BitVec 16} {h : HelloBody} {rest : List Frame}
    (hh : s.Holds { epoch := epoch, body := .hello h } rest) :
    exec .helloReceived s = .next ((s.withHeld rest).takeHelloFrame epoch h) := by
  rw [exec_eq_effect hh.1.1, State.effect,
    State.takeHeld_holds hh (kind := Frame.asHello) (a := (epoch, h)) rfl]
  rfl

theorem State.takeHelloFrame_seeking {s : State} (h : s.link.state = .seeking) (epoch : BitVec 16) (b : HelloBody) :
    s.takeHelloFrame epoch b = s.helloInSeeking epoch b := by
  simp only [State.takeHelloFrame, h]

/-- Two class maps are the same where they give every region the same class. -/
theorem State.classMap_eq_iff (s : State) (m : Vector (BitVec 2) 64) :
    m = s.presentContent.classMap ↔ ∀ r : Fin 64, m[r] = BitVec.ofNat 2 (s.region r).cls.code := by
  constructor
  · rintro rfl r
    simp [State.presentContent]
  · intro h
    refine Vector.ext fun k hk => ?_
    simpa [State.presentContent] using h ⟨k, hk⟩

/-- The parameter checks in the words of R87. -/
theorem State.parameterFailure_eq (s : State) (h : HelloBody) :
    s.parameterFailure h =
      if h.nodeId = s.params.nodeId then some .sameNode
      else if ¬ ∀ r : Fin 64, h.content.classMap[r] = BitVec.ofNat 2 (s.region r).cls.code then some .classMap
      else if h.content.sweepPeriod ≠ BitVec.ofNat 16 s.params.sweepPeriod then some .sweepPeriod
      else none := by
  simp only [State.parameterFailure, ne_eq, State.classMap_eq_iff]
  rfl

theorem OwnState.claims_iff (o : OwnState) : o.claims = true ↔ o = .here ∨ o = .granting := by
  cases o <;> simp [OwnState.claims]

/-- Settles O35: the HELLO as it is handed on, the parameter checks one by one, and the present content field by field. -/
theorem helloInSeekingChecks : Obligations.HelloInSeekingChecks := by
  unfold Obligations.HelloInSeekingChecks
  refine ⟨?_, fun s epoch h rest hh hlink => ?_, fun s r => ?_⟩
  · intro s epoch h rest hh hlink rejected sameClasses samePeriod
    have hexec : exec .helloReceived s = .next ((s.withHeld rest).helloInSeeking epoch h) := by
      rw [hh.exec_hello, State.takeHelloFrame_seeking (s := s.withHeld rest) hlink]
    have rejects {reason : RejectReason} (hf : s.parameterFailure h = some reason) :
        exec .helloReceived s = .next (rejected reason) := by
      have hf' : (s.withHeld rest).parameterFailure h = some reason := hf
      rw [hexec, State.helloInSeeking, hf']
      rfl
    refine ⟨fun hid => rejects ?_, fun hid hcls => rejects ?_, fun hid hcls hper => rejects ?_,
      fun hid hcls hper => ?_⟩
    · rw [State.parameterFailure_eq, if_pos hid]
    · rw [State.parameterFailure_eq, if_neg hid, if_pos hcls]
    · rw [State.parameterFailure_eq, if_neg hid, if_neg (not_not.2 hcls), if_pos hper]
    · have hf : (s.withHeld rest).parameterFailure h = none := by
        change s.parameterFailure h = none
        rw [State.parameterFailure_eq, if_neg hid, if_neg (not_not.2 hcls), if_neg (not_not.2 hper)]
      rw [hexec, State.helloInSeeking, hf]
      rfl
  · rw [hh.exec_hello, State.takeHelloFrame]
    rcases hlink with hl | hl <;> simp only [State.withHeld_frame, hl] <;> rfl
  · refine ⟨rfl, rfl, ?_, ?_, ?_⟩
    · simp [State.presentContent]
    · simp [State.presentContent]
    · simp [State.presentContent, OwnState.claims_iff]

/-! ## SYNC_DONE in order (R93) -/

/-- What a SYNC_DONE in order does in a session that has not yet had one (R93). -/
theorem State.takeSync_first {s : State} (h : s.link.syncReceived = false) (hl : s.link.state = .syncing) :
    s.takeSync = if s.link.syncSent then
      State.withEvent { s with link.syncReceived := true, link.state := .up } .linkUp
    else { s with link.syncReceived := true } := by
  cases hs : s.link.syncSent <;> simp [State.takeSync, State.tryUp, h, hl, hs, State.event_eq]

theorem State.takeSync_repeated {s : State} (h : s.link.syncReceived = true) :
    s.takeSync = s.withProtocolError .syncRepeated none := by
  simp [State.takeSync, h, State.protocolError_eq]

/-- Settles O45: the dispatch of a frame in order, and the two rows of R93. -/
theorem syncDoneReceivedCompletes : Obligations.SyncDoneReceivedCompletes := by
  unfold Obligations.SyncDoneReceivedCompletes
  intro s u seq acked h hseq
  have hexec : exec .syncDoneReceived s = .next u.inOrder.takeSync :=
    h.dispatch (kind := SeqContent.asSync) rfl (fun v _ => v.takeSync) hseq
  rw [hexec]
  refine ⟨fun hrec hlink => ?_, fun hrec => ?_⟩
  · rw [State.takeSync_first (s := u.inOrder) hrec hlink]
    rfl
  · rw [State.takeSync_repeated (s := u.inOrder) hrec]

/-! ## Timers (R85, R97, R111, R112) -/

/-- A command that finds nothing to do changes nothing, in a part held in cold reset or not. -/
theorem exec_idle {c : Instr} {s : State} (h1 : c ≠ .coldReset) (h2 : c ≠ .perstNRelease) (h : s.effect c = s) :
    exec c s = .next s := by
  rw [exec_eq_live c h1 h2, live, h, ite_self]

theorem State.silenceExpires_running {s : State} {ms : Nat} (ht : s.link.silenceTimer = some ms)
    (hl : s.link.state = .joining ∨ s.link.state = .syncing ∨ s.link.state = .up) :
    s.silenceExpires = s.linkLoss .silence :=
  if_pos ⟨by simp [ht], (LinkState.hasPeer_iff _).2 hl⟩

/-- Settles O40: each expiry with its timer running, by the link state, and each with it stopped. -/
theorem linkTimersExpire : Obligations.LinkTimersExpire := by
  unfold Obligations.LinkTimersExpire
  refine ⟨fun s ms hp ht hl => ?_, fun s ms hp ht hl => ?_, fun s ms hp ht hl => ?_, fun s ms hp ht => ?_,
    fun s hp => exec_eq_effect hp _, fun s ht => ?_, fun s ht => ?_, fun s ht => ?_⟩
  · have hx : s.helloExpires = s.handSeekingHello.restartHello := by simp only [State.helloExpires, ht, hl]
    rw [exec_eq_effect hp, State.effect, hx]
    rfl
  · have hx : s.helloExpires = s.handJoiningHello.restartHello := by simp only [State.helloExpires, ht, hl]
    rw [exec_eq_effect hp, State.effect, hx]
    rfl
  · rw [exec_eq_effect hp, State.effect, State.silenceExpires_running ht hl]
  · rw [exec_eq_effect hp]
    simp only [State.effect, State.quietExpires, ht]
  · exact exec_idle (by simp) (by simp) (State.helloExpires_stopped ht)
  · exact exec_idle (by simp) (by simp) (by simp [State.effect, State.silenceExpires, ht])
  · exact exec_idle (by simp) (by simp) (by simp [State.effect, State.quietExpires, ht])

end Sys2Proof.Machine
end

section
/-! What a link loss leaves alone whatever stands at the head of the Execution Queue, LINK_DOWN at the head, and a HELLO in
SYNCING and UP (05). -/

namespace Sys2Proof.Machine

/-! ## The blocks of a loss (R99) -/

theorem State.LossKeeps.refl (s : State) : s.LossKeeps s := by constructor <;> rfl

/-- Told to present, the head acts where it is a WRITE, and otherwise not at all. -/
theorem State.presentHeadWrite_cases (s : State) :
    s.presentHeadWrite = s ∨ ∃ i rest e r offset source, s.HeadWrite i rest e r offset source := by
  unfold State.presentHeadWrite
  split
  · exact .inl rfl
  next i rest hq =>
    split
    · exact .inl rfl
    next e he =>
      split
      next r offset count source waitRemote hc =>
        exact .inr ⟨i, rest, e, r, offset, source, hq, he, count, waitRemote, hc⟩
      · exact .inl rfl

theorem State.Lost.presentHeadWrite_keeps {s : State} (h : s.Lost) : s.LossKeeps s.presentHeadWrite := by
  rcases s.presentHeadWrite_cases with hsame | ⟨i, rest, e, r, offset, source, hw⟩
  · rw [hsame]
    exact .refl s
  · exact (State.presentHeadWrite_keeps h hw).1

theorem State.lossEnd_keeps (s : State) (reason : LossReason) :
    (s.lossBase reason).LossKeeps (s.lossEnd reason) := by
  have hlost := s.lossBase_lost reason
  have hsettled := (s.lossBase reason).settleOwnership_keeps
  rcases s.lossEnd_orders reason with ⟨_, hend⟩ | ⟨_, hend | hend⟩ <;> rw [hend]
  · exact hsettled
  · exact hsettled.trans (State.settleOwnership_lost hlost).presentHeadWrite_keeps
  · exact hlost.presentHeadWrite_keeps.trans (State.settleOwnership_keeps _)

theorem State.linkLoss_dev (s : State) (reason : LossReason) :
    (s.linkLoss reason).dev = (s.counted .linkLosses).dev := by
  obtain ⟨hdev, _⟩ := s.linkLoss_blocks reason
  obtain ⟨hbase, _⟩ := s.lossBase_blocks reason
  rw [hdev, (s.lossEnd_keeps reason).dev, hbase]

theorem State.linkLoss_notif (s : State) (reason : LossReason) :
    (s.linkLoss reason).notif = { s.notif with queue := s.notif.queue ++ [.event (.linkLost reason)] } := by
  obtain ⟨_, hbase, _⟩ := s.lossBase_blocks reason
  have hend : (s.lossEnd reason).notif = s.notif := (s.lossEnd_keeps reason).notif.trans hbase
  rw [State.linkLoss_eq, ← hend]
  split <;> rfl

theorem State.linkLoss_emitted (s : State) (reason : LossReason) : (s.linkLoss reason).emitted = s.emitted := by
  obtain ⟨_, _, _, _, _, _, _, _, hemitted, _⟩ := s.linkLoss_blocks reason
  obtain ⟨_, _, _, _, _, _, _, _, hbase, _⟩ := s.lossBase_blocks reason
  rw [hemitted, (s.lossEnd_keeps reason).emitted, hbase]

theorem State.linkLoss_works {s : State} (h : s.Works) (reason : LossReason) : (s.linkLoss reason).Works := by
  unfold State.Works State.working
  rw [State.linkLoss_dev]
  exact h

/-- The frames held for handing outlast a loss (R113). -/
theorem State.linkLoss_heldFrames (s : State) (reason : LossReason) :
    (s.linkLoss reason).framer.heldFrames = s.framer.heldFrames := by
  obtain ⟨_, _, _, hbase, _⟩ := s.lossBase_blocks reason
  have hend : (s.lossEnd reason).framer.heldFrames = s.framer.heldFrames := by
    rw [(s.lossEnd_keeps reason).framer, hbase]
    rfl
  rw [State.linkLoss_eq, ← hend]
  split <;> rfl

/-- A loss that ends in OFF hands a BYE with the epoch before the rise (R99, R107). -/
theorem State.linkLoss_off {s : State} {reason : LossReason} (h : reason.endsOff = true) :
    (s.linkLoss reason).link.epoch = s.link.epoch + 1 ∧ (s.linkLoss reason).framer.bye = some s.link.epoch := by
  obtain ⟨_, _, hlink, hframer, _⟩ := s.lossBase_blocks reason
  have hkeeps := s.lossEnd_keeps reason
  rw [State.linkLoss_eq, if_pos h]
  simp [hkeeps.link, hkeeps.framer, hlink, hframer, State.dropSession, h]

/-- A loss only requests completions where no WRITE stands at the head. -/
theorem State.linkLoss_settles {s : State} {i : Fin 32} {rest : List (Fin 32)} {e : OctEntry}
    (hq : s.cmd.queue = i :: rest) (he : s.entry i = some e)
    (hc : ∀ r offset count source waitRemote, e.command ≠ .write r offset count source waitRemote)
    (reason : LossReason) : ∃ cs, s.Settles (s.linkLoss reason) cs := by
  have still {t : State} {cs : List Completion} (h : s.Settles t cs) : t.presentHeadWrite = t := by
    refine t.presentHeadWrite_cases.resolve_right ?_
    rintro ⟨k, rest', e', r, offset, source, hw⟩
    have hk : k = i := (List.cons.inj (hw.queue.symm.trans (h.queue.trans hq))).1
    obtain ⟨count, waitRemote, hwrite⟩ := hw.write
    have hentry : some e' = (s.entry i).map (OctEntry.settledBy cs i) := by
      rw [← h.entry, ← hk]
      exact hw.entry.symm
    rw [he, Option.map_some, Option.some.injEq] at hentry
    rw [hentry, (OctEntry.settledBy_names cs i e).2.2.2] at hwrite
    exact hc r offset count source waitRemote hwrite
  obtain ⟨fences, hbase, _⟩ := s.lossBase_settles reason
  obtain ⟨cs, hcs, _⟩ := (s.lossBase reason).settleOwnership_settles
  have hall := hbase.trans hcs
  obtain ⟨_, _, hrings, hcmd, _⟩ := s.linkLoss_blocks reason
  have hend : s.lossEnd reason = (s.lossBase reason).settleOwnership := by
    rcases s.lossEnd_orders reason with ⟨_, hend⟩ | ⟨_, hend | hend⟩
    · exact hend
    · rw [hend, still hall]
    · rw [hend, still hbase]
  exact ⟨_, hall.of_frame (by rw [hrings, hend]) (by rw [hcmd, hend])⟩

/-! ## LINK_DOWN (R83) -/

theorem State.HeadReady.exec_linkDown {s : State} {i : Fin 32} {rest : List (Fin 32)} {e : OctEntry}
    (h : s.HeadReady i rest e) (hc : e.command = .linkDown) :
    exec .linkDown s = .next (s.linkDownEffect.finishHead i .ok s.linkDownEffect.linkInfo) := by
  have hx : exec .linkDown s = _ := h.live_atHead fun t i e => match e.command with
    | .linkDown => t.linkDownEffect.finishHead i .ok t.linkDownEffect.linkInfo
    | _ => t
  rw [hx]
  simp only [hc]

/-- Requesting a completion a second time finds the entry finished already. -/
theorem OctEntry.finished_settledBy (cs : List Completion) (i : Fin 32) (e : OctEntry) :
    (OctEntry.settledBy cs i e).finished = e.finished := by
  unfold OctEntry.settledBy
  split <;> rfl

/-- Settles O27: the head rule, and the three rows of R83; the loss leaves the command at the head, perhaps settled. -/
theorem linkDownEndsLink : Obligations.LinkDownEndsLink := by
  unfold Obligations.LinkDownEndsLink
  intro s i rest e h hc
  rw [h.exec_linkDown hc]
  refine ⟨fun hl => ?_, fun hl => ?_, fun hl => ?_⟩
  · have hsame : s.linkDownEffect = s := by simp only [State.linkDownEffect, hl]
    rw [hsame, h.finish rfl, State.linkInfo, hl]
    rfl
  · have hoff : s.linkDownEffect = { s with link.state := .off, framer.hello := none } := by
      simp only [State.linkDownEffect, hl]
    rw [hoff, h.finish (t := { s with link.state := .off, framer.hello := none }) rfl]
    rfl
  · have hloss : s.linkDownEffect = s.linkLoss .host := by
      rcases hl with hl | hl | hl | hl <;> simp only [State.linkDownEffect, hl]
    obtain ⟨_, hq, he, _⟩ := h
    obtain ⟨cs, hcs⟩ := State.linkLoss_settles hq he (by simp [hc]) .host
    obtain ⟨_, hstate, _⟩ := s.linkLoss_leaves .host
    have hoff : (s.linkLoss .host).link.state = .off := hstate
    have hentry : (s.linkLoss .host).entry i = some (OctEntry.settledBy cs i e) := by
      rw [hcs.entry]
      exact congrArg _ he
    obtain ⟨hring, htag, _⟩ := OctEntry.settledBy_names cs i e
    rw [hloss, State.finishHead_eq hentry (hcs.queue.trans hq), State.linkInfo, hoff]
    refine ⟨_, rfl, rfl, hoff, rfl, ?_, ?_⟩
    · simp [State.headDone, State.withCompletion, OctEntry.finished_settledBy]
    · simp [State.headDone, State.withCompletion, hring, htag, LinkState.code]

/-! ## HELLO in SYNCING and UP (R95) -/

theorem State.takeHelloFrame_session {s : State} (h : s.streaming = true) (epoch : BitVec 16) (b : HelloBody) :
    s.takeHelloFrame epoch b = s.helloInSession epoch b := by
  rcases s.streaming_iff.1 h with hl | hl <;> simp only [State.takeHelloFrame, hl]

theorem State.isPeer_iff (s : State) (epoch : BitVec 16) (h : HelloBody) :
    s.isPeer epoch h = true ↔ s.link.peer = some { nodeId := h.nodeId, epoch := epoch } := by
  simp [State.isPeer]

/-- A HELLO of the recorded peer that names this epoch (R95, first row). -/
def State.KnownHello (s : State) (epoch : BitVec 16) (h : HelloBody) : Prop :=
  s.link.peer = some { nodeId := h.nodeId, epoch := epoch } ∧ h.heard = some s.link.epoch

theorem State.helloInSession_known {s : State} {epoch : BitVec 16} {h : HelloBody} (hk : s.KnownHello epoch h) :
    s.helloInSession epoch h = if h.joined || s.link.confirmDue then s.restartSilence
      else { s.restartSilence.handConfirmingHello with link.confirmDue := true } := by
  obtain ⟨hpeer, hheard⟩ := hk
  rw [State.helloInSession, if_pos ⟨(s.isPeer_iff epoch h).2 hpeer, hheard⟩]
  cases h.joined <;> cases hd : s.link.confirmDue <;> simp [State.confirmAgain, State.restartSilence, hd]

theorem State.helloInSession_stranger {s : State} {epoch : BitVec 16} {h : HelloBody} (hw : s.Works)
    (hk : ¬ s.KnownHello epoch h) :
    s.helloInSession epoch h = (s.linkLoss .peerRestart).helloInSeeking epoch h := by
  rw [State.helloInSession, if_neg fun hp => hk ⟨(s.isPeer_iff epoch h).1 hp.1, hp.2⟩,
    State.andThen_working (State.linkLoss_works hw _).2]

/-- Settles O38: the HELLO as it is handed on, by whether it is known; after the loss the link is SEEKING. -/
theorem helloInSessionKeepsOrRestarts : Obligations.HelloInSessionKeepsOrRestarts := by
  unfold Obligations.HelloInSessionKeepsOrRestarts
  intro s epoch h rest hh hstream known
  have hexec : exec .helloReceived s = .next ((s.withHeld rest).helloInSession epoch h) := by
    rw [hh.exec_hello, State.takeHelloFrame_session (s := s.withHeld rest) hstream]
  rw [hexec]
  refine ⟨fun hk hquiet => ?_, fun hk hj hd => ?_, fun hk => ?_⟩
  · rw [State.helloInSession_known (s := s.withHeld rest) hk, if_pos (by simpa using hquiet)]
    rfl
  · have hheard : s.heardEpoch = some epoch := by simp [State.heardEpoch, hk.1]
    rw [State.helloInSession_known (s := s.withHeld rest) hk, if_neg (by simp [hj, hd]), ← hheard]
    rfl
  · have hw : (s.withHeld rest).Works := hh.1
    have hheld : ((s.withHeld rest).linkLoss .peerRestart).framer.heldFrames = rest := State.linkLoss_heldFrames _ _
    obtain ⟨_, hseeking, _⟩ := (s.withHeld rest).linkLoss_leaves .peerRestart
    have hagain := ((State.linkLoss_works hw .peerRestart).holds { epoch := epoch, body := .hello h } rest).exec_hello
    rw [State.withHeld_withHeld, State.withHeld_self hheld, State.takeHelloFrame_seeking hseeking] at hagain
    rw [State.helloInSession_stranger hw hk, ← hagain]
    rfl

end Sys2Proof.Machine
end

section
/-! Two parts that join with each other's contents come to one owner and one generation of each region (R89 to R91 and the
table of 5.5). -/

namespace Sys2Proof.Machine

/-! ## What the refresh leaves of the owners (R92) -/

/-- The link state, and the state and generation of each region, are the same. -/
structure State.SameOwners (s t : State) : Prop where
  link       : t.link.state = s.link.state
  state      : ∀ r, (t.region r).state = (s.region r).state
  generation : ∀ r, (t.region r).generation = (s.region r).generation

namespace State.SameOwners

theorem of_eq {s t : State} (hl : t.link.state = s.link.state) (hr : t.regions = s.regions) : s.SameOwners t :=
  ⟨hl, fun r => by simp only [State.region, hr], fun r => by simp only [State.region, hr]⟩

theorem refl (s : State) : s.SameOwners s := of_eq rfl rfl

theorem trans {s t u : State} (h : s.SameOwners t) (k : t.SameOwners u) : s.SameOwners u :=
  ⟨k.link.trans h.link, fun r => (k.state r).trans (h.state r), fun r => (k.generation r).trans (h.generation r)⟩

end State.SameOwners

open State.SameOwners

theorem State.enterFaulted_sameOwners (s : State) (code : FaultCode) : s.SameOwners (s.enterFaulted code) := by
  cases hw : s.working
  · rw [State.enterFaulted_dropped hw]
    exact refl s
  · have hregion (r : Fin 64) : (s.enterFaulted code).region r = (s.region r).stopDeferral := by
      simp [State.region, State.enterFaulted, hw]
    exact ⟨by simp [State.enterFaulted, hw], fun r => by rw [hregion]; rfl, fun r => by rw [hregion]; rfl⟩

theorem State.refreshSearch_sameOwners (s : State) (first : Nat) : s.SameOwners (s.refreshSearch first) :=
  of_eq (s.refreshSearch_link first) (by simp)

theorem State.refreshStep_sameOwners (s : State) (c : RefreshCursor) : s.SameOwners (s.refreshStep c).1 := by
  unfold State.refreshStep
  simp only []
  split
  · split
    · exact of_eq rfl rfl
    split
    · split
      · exact s.enterFaulted_sameOwners _
      next words _ =>
        have hframe : s.SameOwners (s.enqueue (refreshFrame c.region c.step words) none) := of_eq rfl rfl
        split
        · exact of_eq rfl rfl
        · exact hframe.trans (State.refreshSearch_sameOwners _ _)
    · exact of_eq rfl rfl
  · exact s.refreshSearch_sameOwners _

theorem State.refreshRun_sameOwners (fuel : Nat) (s : State) : s.SameOwners (State.refreshRun fuel s) := by
  induction fuel generalizing s with
  | zero => exact refl s
  | succ n ih =>
    unfold State.refreshRun
    split
    · exact refl s
    next c _ =>
      split
      · exact (s.refreshStep_sameOwners c).trans (ih _)
      · exact s.refreshStep_sameOwners c

/-! ## The join (R89 to R91) -/

theorem State.region_reconcile (s : State) (own peer : HelloContent) (r : Fin 64) :
    (s.reconcile own peer).region r =
      (s.region r).reconciled (s.ownsAfter own peer r) (largerGeneration own.generations[r] peer.generations[r]) := by
  have hregions : (s.reconcile own peer).regions = (s.mapRegions fun r e =>
      e.reconciled (s.ownsAfter own peer r) (largerGeneration own.generations[r] peer.generations[r])).regions := by
    simp [State.reconcile]
  rw [State.region, hregions]
  exact State.region_mapRegions s _ r

theorem RegionEntry.withGeneration_generation (e : RegionEntry) (g : BitVec 32) :
    (e.withGeneration g).generation = g := by
  unfold RegionEntry.withGeneration
  split
  next h => exact h.symm
  next => rfl

/-- A part that completes a join is SYNCING, and each region is as its reconcile decides, whatever the refresh meets. -/
theorem State.completeJoin_owners (s : State) (peer : HelloContent) :
    (s.completeJoin peer).link.state = .syncing ∧ ∀ r : Fin 64,
      ((s.completeJoin peer).region r).state = (if s.ownsAfter s.fixedContent peer r then .here else .there) ∧
      ((s.completeJoin peer).region r).generation =
        largerGeneration s.fixedContent.generations[r] peer.generations[r] := by
  obtain ⟨t, hrefresh, hsync, hregions⟩ : ∃ t : State, t.SameOwners (s.completeJoin peer) ∧
      t.link.state = .syncing ∧ t.regions = (s.reconcile s.fixedContent peer).regions :=
    ⟨_, (State.refreshSearch_sameOwners _ 0).trans (State.refreshRun_sameOwners refreshFuel _), rfl, rfl⟩
  have hregion (r : Fin 64) : t.region r = (s.reconcile s.fixedContent peer).region r := by
    simp only [State.region, hregions]
  refine ⟨hrefresh.link.trans hsync, fun r => ⟨(hrefresh.state r).trans ?_, (hrefresh.generation r).trans ?_⟩⟩
  · rw [hregion, s.region_reconcile]
    rfl
  · rw [hregion, s.region_reconcile]
    exact RegionEntry.withGeneration_generation _ _

/-- The state in which a part of a join completes it, off the framer's hands and with the peer's content recorded. -/
def State.joinStarts (s : State) (rest : List Frame) (h : HelloBody) : State :=
  { s.passed rest with link.peerContent := some h.content }

/-- The peer's HELLO that names this part's epoch completes the join (R89, first row). -/
theorem State.Holds.exec_join {s : State} {epoch : BitVec 16} {h : HelloBody} {rest : List Frame}
    (hh : s.Holds { epoch := epoch, body := .hello h } rest) (hl : s.link.state = .joining)
    (hp : s.link.peer = some { nodeId := h.nodeId, epoch := epoch }) (hheard : h.heard = some s.link.epoch) :
    exec .helloReceived s = .next ((s.joinStarts rest h).completeJoin h.content) := by
  have hpeer : (s.withHeld rest).isPeer epoch h = true := (State.isPeer_iff _ _ _).2 hp
  have hjoins : (s.withHeld rest).takeHelloFrame epoch h = (s.withHeld rest).helloInJoining epoch h := by
    simp only [State.takeHelloFrame, State.withHeld_frame, hl]
  rw [hh.exec_hello, hjoins, State.helloInJoining, if_pos hpeer]
  exact congrArg _ (if_pos hheard)

/-! ## The table of 5.5 seen from both parts -/

theorem decide_lt_exchanged {m n : Nat} (h : m ≠ n) : decide (n < m) = !decide (m < n) := by
  rw [← decide_not, decide_eq_decide]
  omega

/-- With the roles of the parts exchanged the table gives the region to the other part. -/
theorem ownerIsHere_exchanged (fresh1 fresh2 claims1 claims2 : Bool) (gen1 gen2 : BitVec 32) (roleA : Bool) :
    ownerIsHere fresh2 fresh1 claims2 claims1 gen2 gen1 (!roleA) =
      !ownerIsHere fresh1 fresh2 claims1 claims2 gen1 gen2 roleA := by
  unfold ownerIsHere
  by_cases hfresh : fresh1 = fresh2
  case neg => cases fresh1 <;> cases fresh2 <;> simp_all
  by_cases hclaims : claims1 = claims2
  case neg => cases claims1 <;> cases claims2 <;> simp_all
  subst hfresh hclaims
  by_cases hgen : gen1 = gen2
  · simp [hgen]
  · have hnat : gen1.toNat ≠ gen2.toNat := fun h => hgen (BitVec.eq_of_toNat_eq h)
    cases fresh1 <;> cases claims1 <;> simp [hgen, Ne.symm hgen, decide_lt_exchanged hnat]

theorem State.ownsAfter_of_peer {s : State} {p : Peer} (h : s.link.peer = some p) (own peer : HelloContent)
    (r : Fin 64) : s.ownsAfter own peer r =
      ownerIsHere own.fresh peer.fresh own.claims[r] peer.claims[r] own.generations[r] peer.generations[r]
        (decide (s.params.nodeId.toNat < p.nodeId.toNat)) := by
  rw [State.ownsAfter, h]
  rfl

/-- Two parts that have each other as recorded peer own different regions. -/
theorem State.ownsAfter_exchanged {s1 s2 : State} {epoch1 epoch2 : BitVec 16}
    (hp1 : s1.link.peer = some { nodeId := s2.params.nodeId, epoch := epoch2 })
    (hp2 : s2.link.peer = some { nodeId := s1.params.nodeId, epoch := epoch1 })
    (hne : s1.params.nodeId ≠ s2.params.nodeId) (own1 own2 : HelloContent) (r : Fin 64) :
    s2.ownsAfter own2 own1 r = !s1.ownsAfter own1 own2 r := by
  have hnat : s1.params.nodeId.toNat ≠ s2.params.nodeId.toNat := fun h => hne (BitVec.eq_of_toNat_eq h)
  rw [State.ownsAfter_of_peer hp1, State.ownsAfter_of_peer hp2, ← ownerIsHere_exchanged, decide_lt_exchanged hnat]

theorem largerGeneration_comm (a b : BitVec 32) : largerGeneration a b = largerGeneration b a := by
  unfold largerGeneration
  split <;> split
  · omega
  · rfl
  · rfl
  · exact BitVec.eq_of_toNat_eq (by omega)

/-- Settles O37: both joins complete, and the table of 5.5 decides for the two parts in opposite ways. -/
theorem reconcileAgreesAtBothParts : Obligations.ReconcileAgreesAtBothParts := by
  unfold Obligations.ReconcileAgreesAtBothParts
  intro s1 s2 h1 h2 rest1 rest2 hh1 hh2 hl1 hl2 hp1 hp2 hid1 hid2 hne hheard2 hheard1 hc1 hc2
  have hx1 := hh1.exec_join hl1 (hid2 ▸ hp1) hheard2
  have hx2 := hh2.exec_join hl2 (hid1 ▸ hp2) hheard1
  obtain ⟨hsync1, howners1⟩ := (s1.joinStarts rest1 h2).completeJoin_owners h2.content
  obtain ⟨hsync2, howners2⟩ := (s2.joinStarts rest2 h1).completeJoin_owners h1.content
  refine ⟨_, _, hx1, hx2, hsync1, hsync2, fun r => ?_⟩
  obtain ⟨hstate1, hgen1⟩ := howners1 r
  obtain ⟨hstate2, hgen2⟩ := howners2 r
  have hown1 : (s1.joinStarts rest1 h2).fixedContent = h1.content := hc1.symm
  have hown2 : (s2.joinStarts rest2 h1).fixedContent = h2.content := hc2.symm
  have hexchanged := State.ownsAfter_exchanged (s1 := s1.joinStarts rest1 h2) (s2 := s2.joinStarts rest2 h1) hp1 hp2 hne
    h1.content h2.content r
  rw [hown1] at hstate1 hgen1
  rw [hown2] at hstate2 hgen2
  rw [hexchanged] at hstate2
  constructor
  · cases howns : (s1.joinStarts rest1 h2).ownsAfter h1.content h2.content r
    · exact .inr ⟨by simpa [howns] using hstate1, by simpa [howns] using hstate2⟩
    · exact .inl ⟨by simpa [howns] using hstate1, by simpa [howns] using hstate2⟩
  · exact hgen1.trans ((largerGeneration_comm _ _).trans hgen2.symm)

end Sys2Proof.Machine
end

section
/-! The register window: whole writes by their offset, reads, STATUS, and the LINK_UP pin (R81, R172 to R174, 11.2). -/

namespace Sys2Proof.Machine

/-! ## The words that a write covers (R172) -/

theorem wholeWords_short (offset : Nat) {data : List Byte} (h : data.length < 4) : wholeWords offset data = [] := by
  simp [wholeWords, Nat.div_eq_of_lt h]

theorem wholeWords_one {offset : Nat} {data : List Byte} (ha : offset % 4 = 0) (h : data.length = 4) :
    wholeWords offset data = [(offset, BitVec.ofNat 32 (leNat data))] := by
  have hstart : (offset + 3) / 4 * 4 = offset := by omega
  have hfield : fieldAt data 0 4 = leNat data := by rw [fieldAt, List.drop_zero, List.take_of_length_le h.le]
  simp [wholeWords, h, hstart, hfield]

theorem wholeWords_two {offset : Nat} {low high : List Byte} (ha : offset % 4 = 0) (hl : low.length = 4)
    (hh : high.length = 4) : wholeWords offset (low ++ high) = wholeWords offset low ++ wholeWords (offset + 4) high := by
  have hstart : (offset + 3) / 4 * 4 = offset := by omega
  have hlow : fieldAt (low ++ high) 0 4 = leNat low := by
    rw [fieldAt_append_left (by omega), fieldAt, List.drop_zero, List.take_of_length_le hl.le]
  have hhigh : fieldAt (low ++ high) 4 4 = leNat high := by
    rw [fieldAt_append_right (by omega), hl, fieldAt, Nat.sub_self, List.drop_zero, List.take_of_length_le hh.le]
  rw [wholeWords_one ha hl, wholeWords_one (by omega) hh]
  simp [wholeWords, hl, hh, hstart, hlow, hhigh, List.range_succ]

/-- Writes of more words are the writes of each, in their order. -/
theorem State.writeWindow_two (s : State) {offset : Nat} {low high : List Byte} (ha : offset % 4 = 0)
    (hl : low.length = 4) (hh : high.length = 4) :
    s.writeWindow offset (low ++ high) = (s.writeWindow offset low).writeWindow (offset + 4) high := by
  simp only [State.writeWindow, wholeWords_two ha hl hh, List.foldl_append]

theorem State.writeWindow_word (s : State) {offset : Nat} (ha : offset % 4 = 0) (b0 b1 b2 b3 : Byte) :
    s.writeWindow offset [b0, b1, b2, b3] = s.writeRegister offset (b3 ++ b2 ++ b1 ++ b0) := by
  have hvalue : BitVec.ofNat 32 (leNat [b0, b1, b2, b3]) = b3 ++ b2 ++ b1 ++ b0 := by
    rw [← leNat_word, BitVec.ofNat_toNat, BitVec.setWidth_eq]
  rw [State.writeWindow, wholeWords_one ha rfl, hvalue]
  rfl

/-! ## Writes by their offset (R172, R174, 11.2) -/

theorem State.writeRegister_eq (s : State) (offset : Nat) (value : Word) :
    s.writeRegister offset value =
      if offset = 0x004 then s.controlWrite (value.toNat % 256)
      else if offset = 0x00C then { s with dev.setupLo := value }
      else if offset = 0x010 then { s with dev.setupHi := value }
      else if offset = 0x014 then s.postWrite (value.toNat / 65536 % 8) (value.toNat % 65536)
      else s := by
  unfold State.writeRegister
  split <;> simp_all

theorem State.controlWrite_eq (s : State) (code : Nat) :
    s.controlWrite code =
      if code = 1 then s.startWritten else if code = 2 then s.stopWritten else if code = 3 then s.resetWritten
      else if code = 4 then s.clearFaultWritten else s.refuseControl := by
  unfold State.controlWrite
  split <;> simp_all

/-- The command that a POST write with a selector is. -/
theorem State.exec_post {s : State} (hp : s.dev.perst = false) (n : Nat) (index : BitVec 16) :
    (if n % 8 = 0 then exec (.producerIndexPost .urgent index) s
      else if n % 8 = 1 then exec (.producerIndexPost .normal index) s
      else if n % 8 = 2 then exec (.completionConsumerPost index) s
      else if n % 8 = 3 then exec (.notificationConsumerPost index) s
      else exec (.badPostSelector (BitVec.ofNat 3 n) index) s) = .next (s.postWrite (n % 8) index.toNat) := by
  simp only [exec_eq_effect hp, State.effect, ringSelector, BitVec.toNat_ofNat]
  split
  next h => rw [h]
  split
  next h => rw [h]
  split
  next h => rw [h]
  split
  next h => rw [h]
  next => rfl

theorem State.exec_control {s : State} (hp : s.dev.perst = false) (b : Byte) :
    (if b = 1#8 then exec .start s else if b = 2#8 then exec .stop s else if b = 3#8 then exec .reset s
      else if b = 4#8 then exec .clearFault s else .next { s with dev.controlRefused := true }) =
      .next (s.controlWrite b.toNat) := by
  simp only [exec_eq_effect hp, State.effect, State.controlWrite_eq, BitVec.toNat_eq, BitVec.toNat_ofNat]
  repeat' split
  all_goals rfl

/-! ## The part stays out of cold reset -/

theorem State.enterFaulted_perst (s : State) (code : FaultCode) : (s.enterFaulted code).dev.perst = s.dev.perst := by
  unfold State.enterFaulted
  split <;> rfl

theorem State.postWrite_perst (s : State) (selector index : Nat) :
    (s.postWrite selector index).dev.perst = s.dev.perst := by
  unfold State.postWrite State.postProducer State.postConsumer State.postNotify
  simp only []
  repeat' split
  all_goals simp [State.enterFaulted_perst]

theorem State.linkLoss_perst (s : State) (reason : LossReason) : (s.linkLoss reason).dev.perst = s.dev.perst := by
  rw [State.linkLoss_dev]
  rfl

theorem State.stopLink_perst (s : State) : s.stopLink.dev.perst = s.dev.perst := by
  unfold State.stopLink
  split
  · rfl
  · rfl
  · exact s.linkLoss_perst .stop

theorem State.haltIfReported_perst (s : State) : s.haltIfReported.dev.perst = s.dev.perst := by
  unfold State.haltIfReported
  split <;> rfl

theorem State.reports_perst (s : State) :
    s.ringsReport.dev.perst = s.dev.perst ∧ s.notifyReport.dev.perst = s.dev.perst := by
  unfold State.ringsReport State.notifyReport
  constructor <;> split <;> simp [State.haltIfReported_perst]

theorem State.stopWritten_perst (s : State) : s.stopWritten.dev.perst = s.dev.perst := by
  rw [State.stopWritten_eq]
  split
  · have hparts : s.stopAccepted.stopLink.stopAdmission.abortAll.dev.perst = s.dev.perst := by
      simp [State.stopAdmission, State.stopLink_perst, State.stopAccepted]
    rw [(State.reports_perst _).2, (State.reports_perst _).1, hparts]
  · rfl

theorem State.controlWrite_unheld {s : State} (h : s.dev.perst = false) (code : Nat) :
    (s.controlWrite code).dev.perst = false := by
  unfold State.controlWrite
  split
  · unfold State.startWritten State.loadFails State.refuseControl
    simp only []
    repeat' split
    all_goals exact h
  · rw [State.stopWritten_perst, h]
  · unfold State.resetWritten
    split
    · exact h
    · rfl
  · unfold State.clearFaultWritten
    split <;> exact h
  · exact h

theorem State.writeRegister_unheld {s : State} (h : s.dev.perst = false) (offset : Nat) (value : Word) :
    (s.writeRegister offset value).dev.perst = false := by
  unfold State.writeRegister
  split
  · exact State.controlWrite_unheld h _
  · exact h
  · exact h
  · rw [State.postWrite_perst, h]
  · exact h

/-- A register write does not hold the part in cold reset. -/
theorem State.writeWindow_unheld {s : State} (h : s.dev.perst = false) (offset : Nat) (data : List Byte) :
    (s.writeWindow offset data).dev.perst = false := by
  unfold State.writeWindow
  induction wholeWords offset data generalizing s with
  | nil => exact h
  | cons x l ih => exact ih (State.writeRegister_unheld h x.1 x.2)

/-! ## Reads (R172, 11.2) -/

theorem State.registerValue_eq (s : State) (offset : Nat) :
    s.registerValue offset =
      if offset = 0x000 then 0x01D64B47#32 else if offset = 0x008 then s.statusWord
      else if offset = 0x00C then s.dev.setupLo else if offset = 0x010 then s.dev.setupHi else 0 := by
  unfold State.registerValue
  split
  · rfl
  all_goals simp_all

/-- A byte of a word, counted from the least significant. -/
theorem byte_of_word (w : Word) (m : Nat) : BitVec.ofNat 8 (w.toNat / 256 ^ m) = w.extractLsb' (8 * m) 8 := by
  rw [BitVec.extractLsb', Nat.shiftRight_eq_div_pow, pow_mul]
  norm_num

/-- A read inside one register (R172). -/
theorem State.readWindow_word {s : State} (hp : s.dev.perst = false) {offset k n : Nat} (ha : offset % 4 = 0)
    (hk : k + n ≤ 4) : s.readWindow (offset + k) n =
      some ((List.range n).map fun j => (s.registerValue offset).extractLsb' (8 * (k + j)) 8) := by
  rw [State.readWindow, hp, if_neg Bool.false_ne_true]
  congr 1
  refine List.map_congr_left fun j hj => ?_
  have hj := List.mem_range.1 hj
  have hword : (offset + k + j) / 4 * 4 = offset := by omega
  have hbyte : (offset + k + j) % 4 = k + j := by omega
  rw [hword, hbyte, byte_of_word]

/-- A 64-bit read is two reads of 32 bits. -/
theorem State.readWindow_two {s : State} {offset : Nat} {low high : List Byte} (hl : s.readWindow offset 4 = some low)
    (hh : s.readWindow (offset + 4) 4 = some high) : s.readWindow offset 8 = some (low ++ high) := by
  unfold State.readWindow at hl hh ⊢
  split at hl
  · cases hl
  next hp =>
    rw [if_neg hp, Option.some.injEq] at hh ⊢
    rw [Option.some.injEq] at hl
    have hrange : List.range 8 = List.range 4 ++ (List.range 4).map (4 + ·) := by decide
    rw [← hl, ← hh, hrange, List.map_append, List.map_map]
    simp only [Nat.add_assoc offset 4]
    rfl

/-! ## STATUS (R173, 11.2) -/

theorem toNat_extractLsb'_ofNat {w : Nat} (n start len : Nat) (h : n < 2 ^ w) :
    ((BitVec.ofNat w n).extractLsb' start len).toNat = n / 2 ^ start % 2 ^ len := by
  rw [BitVec.extractLsb'_toNat, BitVec.toNat_ofNat, Nat.mod_eq_of_lt h, Nat.shiftRight_eq_div_pow]

theorem getLsbD_ofNat {w n : Nat} (k : Nat) (h : n < 2 ^ w) :
    (BitVec.ofNat w n).getLsbD k = decide (n / 2 ^ k % 2 = 1) := by
  rw [BitVec.getLsbD, BitVec.toNat_ofNat, Nat.mod_eq_of_lt h, Nat.testBit_eq_decide_div_mod_eq]

/-- Fields of 3, 3, 3 and 4 bits and two single bits, at the places that 11.2 gives those of STATUS. -/
structure StatusFields (w : Word) (dev link fault setup : Nat) (frozen refused : Bool) : Prop where
  dev     : (w.extractLsb' 0 3).toNat = dev
  link    : (w.extractLsb' 4 3).toNat = link
  fault   : (w.extractLsb' 8 3).toNat = fault
  setup   : (w.extractLsb' 16 4).toNat = setup
  frozen  : w.getLsbD 24 = frozen
  refused : w.getLsbD 25 = refused
  rest    : ∀ k ∈ [3, 7, 11, 12, 13, 14, 15, 20, 21, 22, 23, 26, 27, 28, 29, 30, 31], w.getLsbD k = false

theorem bit_lt (b : Bool) : bit b < 2 := by cases b <;> decide

theorem decide_bit (b : Bool) : decide (bit b = 1) = b := by cases b <;> rfl

theorem statusFields_ofNat {dev link fault setup : Nat} (hd : dev < 8) (hl : link < 8) (hf : fault < 8)
    (hs : setup < 16) (frozen refused : Bool) :
    StatusFields (BitVec.ofNat 32 (dev + 16 * link + 256 * fault + 65536 * setup + 16777216 * bit frozen
      + 33554432 * bit refused)) dev link fault setup frozen refused := by
  have hfrozen := bit_lt frozen
  have hrefused := bit_lt refused
  have hw : dev + 16 * link + 256 * fault + 65536 * setup + 16777216 * bit frozen + 33554432 * bit refused < 2 ^ 32 := by
    omega
  constructor
  case frozen =>
    rw [getLsbD_ofNat _ hw]
    conv_rhs => rw [← decide_bit frozen]
    exact decide_eq_decide.2 (by omega)
  case refused =>
    rw [getLsbD_ofNat _ hw]
    conv_rhs => rw [← decide_bit refused]
    exact decide_eq_decide.2 (by omega)
  case rest =>
    intro k hk
    rw [getLsbD_ofNat _ hw]
    simp only [List.mem_cons, List.not_mem_nil, or_false] at hk
    rcases hk with rfl | rfl | rfl | rfl | rfl | rfl | rfl | rfl | rfl | rfl | rfl | rfl | rfl | rfl | rfl | rfl | rfl
    all_goals exact decide_eq_false (by omega)
  all_goals
    rw [toNat_extractLsb'_ofNat _ _ _ hw]
    omega

theorem State.statusWord_fields (s : State) : StatusFields s.statusWord s.dev.state.code s.link.state.code
    s.dev.faultCode.code s.dev.setupError.code s.notif.frozen s.dev.controlRefused := by
  refine statusFields_ofNat ?_ ?_ ?_ ?_ _ _
  · cases s.dev.state <;> decide
  · cases s.link.state <;> decide
  · cases s.dev.faultCode <;> decide
  · cases s.dev.setupError <;> decide

/-- Settles O5: writes by the words they cover, reads by the register they meet, STATUS field by field, and the pin. -/
theorem registerWritesByOffset : Obligations.RegisterWritesByOffset := by
  unfold Obligations.RegisterWritesByOffset
  refine ⟨fun s offset b0 b1 b2 b3 hp ha => ?_, fun s offset data hd => ?_,
    fun s t offset low high ha hend hl hh hx => ?_, ?_, fun s offset low high => State.readWindow_two,
    fun s offset n hp => if_pos hp, fun s => ?_, fun s => ?_⟩
  · have hvalue : (b3 ++ b2 ++ b1 ++ b0 : Word).toNat = leNat [b0, b1, b2, b3] := leNat_word b0 b1 b2 b3
    have hindex : (b1 ++ b0 : BitVec 16).toNat = b1.toNat * 2 ^ 8 + b0.toNat := toNat_append_bytes b1 b0
    simp only [leNat] at hvalue
    have hcode : (b3 ++ b2 ++ b1 ++ b0 : Word).toNat % 256 = b0.toNat := by omega
    have hselector : (b3 ++ b2 ++ b1 ++ b0 : Word).toNat / 65536 % 8 = b2.toNat % 8 := by omega
    have hlow : (b3 ++ b2 ++ b1 ++ b0 : Word).toNat % 65536 = (b1 ++ b0 : BitVec 16).toNat := by omega
    rw [exec_eq_effect hp, State.exec_control hp, State.exec_post hp]
    simp only [State.effect, State.writeWindow_word s ha, State.writeRegister_eq, hcode, hselector, hlow,
      BitVec.toNat_eq, BitVec.toNat_ofNat]
    repeat' split
    all_goals rfl
  · have hsame : s.effect (.registerWrite offset data) = s := by
      simp only [State.effect, State.writeWindow, wholeWords_short _ hd, List.foldl_nil]
    exact exec_idle (by simp) (by simp) hsame
  · have hnext : (offset + 4).toNat = offset.toNat + 4 := by
      rw [BitVec.toNat_add]
      exact Nat.mod_eq_of_lt (by simp; omega)
    cases hp : s.dev.perst
    · rw [exec_eq_effect hp, Host.Outcome.next.injEq] at hx
      have ht : t.dev.perst = false := hx ▸ State.writeWindow_unheld hp _ _
      rw [exec_eq_effect hp, exec_eq_effect ht, State.effect, State.effect, s.writeWindow_two ha hl hh, hnext]
      rw [State.effect] at hx
      rw [hx]
    · rw [exec_held hp, Host.Outcome.next.injEq] at hx
      rw [← hx, exec_held hp, exec_held hp]
  · intro s offset k n hp ha hk word
    have hword : s.registerValue offset.toNat = word := by
      simp only [State.registerValue_eq, word, BitVec.toNat_eq, BitVec.toNat_ofNat, Nat.reducePow, Nat.reduceMod]
    rw [State.readWindow_word hp ha hk, hword]
  · have h := s.statusWord_fields
    refine ⟨h.dev.trans ?_, h.link.trans ?_, h.fault.trans ?_, h.setup.trans ?_, h.frozen, h.refused, h.rest⟩
    · cases s.dev.state <;> rfl
    · cases s.link.state <;> rfl
    · cases s.dev.faultCode <;> rfl
    · cases s.dev.setupError <;> rfl
  · simp [State.linkUpPin]

end Sys2Proof.Machine
end

section
/-! The aborts at STOP: what each entry without a transfer gives up, and what all of them leave together (R136, R154). -/

namespace Sys2Proof.Machine

/-! ## What an abort frees -/

/-- The entry in place `i`, if its command is to be aborted at once: it has not completed and no transfer of it is in
progress (R154). -/
def State.idleEntry (s : State) (i : Fin 32) : Option OctEntry :=
  (s.entry i).filter fun e => decide (e.phase ≠ .completed) && !s.transferBusy e

/-- A WRITE. -/
def Command.isWrite : Command → Bool
  | .write .. => true
  | _ => false

/-- A READ. -/
def Command.isRead : Command → Bool
  | .read .. => true
  | _ => false

/-- A WRITE of the region, which counts as one of its staged WRITEs (R29). -/
def Command.writesTo (r : Fin 64) : Command → Bool
  | .write r' _ _ _ _ => r' == r
  | _ => false

theorem Command.isWrite_of_writesTo {r : Fin 64} {c : Command} (h : c.writesTo r = true) : c.isWrite = true := by
  cases c with
  | write => rfl
  | _ => cases h

/-- An abort of the entry frees the staging slot (R123). -/
def OctEntry.freesSlot (j : Fin 8) (e : OctEntry) : Bool := e.command.isWrite && decide (e.staging = some j)

/-- An abort of the entry frees the read buffer (R124). -/
def OctEntry.freesBuffer (j : Fin 4) (e : OctEntry) : Bool := e.command.isRead && decide (e.buffer = some j)

/-- The completion of an aborted entry (R154). -/
def abortRecord (p : Fin 32 × OctEntry) : Completion :=
  { ring := p.2.ring, tag := p.2.tag, status := .aborted, info := .zero, entry := some p.1 }

theorem State.idleEntry_eq_some {s : State} {i : Fin 32} {e : OctEntry} :
    s.idleEntry i = some e ↔ s.entry i = some e ∧ e.phase ≠ .completed ∧ s.transferBusy e = false := by
  simp [State.idleEntry, Option.filter_eq_some_iff]

theorem State.abortIdle_eq (s : State) (i : Fin 32) :
    s.abortIdle i = if (s.idleEntry i).isSome then s.abortEntry i else s := by
  unfold State.abortIdle
  cases he : s.entry i with
  | none => simp [State.idleEntry, he]
  | some e =>
    by_cases hc : e.phase = .completed <;> cases hb : s.transferBusy e <;> simp [State.idleEntry, he, hc, hb]

/-- No ring waits for a resource, as after the stop of admission (R154). -/
def State.Unwaiting (s : State) : Prop := s.rings.urgent.waiting = none ∧ s.rings.normal.waiting = none

/-- A resource that no ring waits for is freed without more. -/
theorem State.Unwaiting.offerResource {s : State} (h : s.Unwaiting) (x : Resource) :
    (s.offerResource x).rings = s.rings := by
  obtain ⟨hu, hn⟩ := h
  simp [State.offerResource, SubRing.offer, hu, hn]

theorem State.Unwaiting.freeStaging {s : State} (h : s.Unwaiting) (slot : Option (Fin 8)) :
    (s.freeStaging slot).rings = s.rings := by
  cases slot with
  | none => rfl
  | some j => exact State.Unwaiting.offerResource (s := { s with cmd.staging := s.cmd.staging.set j none }) h .stagingSlot

theorem State.Unwaiting.freeBuffer {s : State} (h : s.Unwaiting) (buffer : Option (Fin 4)) :
    (s.freeBuffer buffer).rings = s.rings := by
  cases buffer with
  | none => rfl
  | some j => exact State.Unwaiting.offerResource (s := { s with cmd.buffers := s.cmd.buffers.set j none }) h .readBuffer

theorem State.freeBuffer_cmd (s : State) (buffer : Option (Fin 4)) :
    (s.freeBuffer buffer).cmd = { s.cmd with buffers := (s.freeBuffer buffer).cmd.buffers } := by
  cases buffer <;> rfl

theorem State.freeBuffer_buffers (s : State) (buffer : Option (Fin 4)) (j : Fin 4) :
    (s.freeBuffer buffer).cmd.buffers[j] = if buffer = some j then none else s.cmd.buffers[j] := by
  cases buffer with
  | none => rfl
  | some k =>
    have hset : ((s.freeBuffer (some k)).cmd.buffers[j] : Option ReadBuffer) = (s.cmd.buffers.set k none)[j] := rfl
    rw [hset]
    by_cases h : k = j
    · subst h; simp
    · have hne : (k : Nat) ≠ j := fun hv => h (Fin.ext hv)
      simp [h, Vector.getElem_set_ne, hne]

/-! ## Entries aborted -/

/-- The part `t` is `s` with these entries aborted: their completions have joined the posting queue in this order, they
have left the Execution Queue, and what they held is free. -/
structure State.Aborts (s t : State) (es : List (Fin 32 × OctEntry)) : Prop where
  rings   : t.rings = { s.rings with posting := s.rings.posting ++ es.map abortRecord }
  entry   : ∀ j, t.entry j = (s.entry j).map (OctEntry.settledBy (es.map abortRecord) j)
  queue   : t.cmd.queue = s.cmd.queue.filter fun k => !es.any fun p => p.1 == k
  staging : ∀ j : Fin 8, t.cmd.staging[j] = if es.any fun p => p.2.freesSlot j then none else s.cmd.staging[j]
  buffers : ∀ j : Fin 4, t.cmd.buffers[j] = if es.any fun p => p.2.freesBuffer j then none else s.cmd.buffers[j]
  copy    : t.cmd.statsCopy = s.cmd.statsCopy
  region  : ∀ r, t.region r = { s.region r with
    stagingCount := (s.region r).stagingCount - es.countP fun p => p.2.command.writesTo r }
  stream  : t.stream = { s.stream with waitWrite := t.stream.waitWrite }

namespace State.Aborts

theorem refl (s : State) : s.Aborts s [] where
  rings := by simp
  entry j := by simp
  queue := by simp
  staging j := by simp
  buffers j := by simp
  copy := rfl
  region r := by simp
  stream := rfl

theorem trans {s t u : State} {es fs : List (Fin 32 × OctEntry)} (h : s.Aborts t es) (k : t.Aborts u fs) :
    s.Aborts u (es ++ fs) where
  rings := by rw [k.rings, h.rings, List.map_append, List.append_assoc]
  entry j := by
    rw [k.entry, h.entry, Option.map_map, List.map_append]
    congr 1
    funext e
    exact OctEntry.settledBy_append _ _ j e
  queue := by
    rw [k.queue, h.queue, List.filter_filter]
    congr 1
    funext i
    rw [List.any_append, Bool.not_or, Bool.and_comm]
  staging j := by
    rw [k.staging, h.staging, List.any_append]
    cases es.any fun p => p.2.freesSlot j <;> cases fs.any fun p => p.2.freesSlot j <;> rfl
  buffers j := by
    rw [k.buffers, h.buffers, List.any_append]
    cases es.any fun p => p.2.freesBuffer j <;> cases fs.any fun p => p.2.freesBuffer j <;> rfl
  copy := k.copy.trans h.copy
  region r := by rw [k.region, h.region, List.countP_append, Nat.sub_sub]
  stream := by rw [k.stream, h.stream]

theorem unwaiting {s t : State} {es : List (Fin 32 × OctEntry)} (h : s.Aborts t es) (hs : s.Unwaiting) : t.Unwaiting := by
  unfold State.Unwaiting
  rw [h.rings]
  exact hs

end State.Aborts

/-- What an aborted command gives up, where no transfer of it is in progress and no ring waits (R136, R154). -/
structure State.GivesUp (s t : State) (e : OctEntry) : Prop where
  rings   : t.rings = s.rings
  oct     : t.cmd.oct = s.cmd.oct
  queue   : t.cmd.queue = s.cmd.queue
  staging : ∀ j : Fin 8, t.cmd.staging[j] = if e.freesSlot j then none else s.cmd.staging[j]
  buffers : ∀ j : Fin 4, t.cmd.buffers[j] = if e.freesBuffer j then none else s.cmd.buffers[j]
  copy    : t.cmd.statsCopy = s.cmd.statsCopy
  region  : ∀ r, t.region r = { s.region r with
    stagingCount := (s.region r).stagingCount - if e.command.writesTo r then 1 else 0 }
  stream  : t.stream = { s.stream with waitWrite := t.stream.waitWrite }

/-- A command that is neither WRITE nor READ gives up nothing. -/
theorem State.GivesUp.nothing {s : State} {e : OctEntry} (hw : e.command.isWrite = false)
    (hr : e.command.isRead = false) : s.GivesUp s e where
  rings := rfl
  oct := rfl
  queue := rfl
  staging j := by simp [OctEntry.freesSlot, hw]
  buffers j := by simp [OctEntry.freesBuffer, hr]
  copy := rfl
  region r := by
    have hno : e.command.writesTo r = false :=
      Bool.eq_false_iff.2 fun h => Bool.eq_false_iff.1 hw (Command.isWrite_of_writesTo h)
    simp [hno]
  stream := rfl

theorem State.giveUp_write {s : State} (h : s.Unwaiting) {e : OctEntry} {r : Fin 64} {offset count : Nat}
    {source : WriteSource} {waitRemote : Bool} (hc : e.command = .write r offset count source waitRemote) :
    s.GivesUp (s.writeTakesEffect e r) e := by
  have hcmd (j : Option (Fin 8)) (t : State) : (t.freeStaging j).cmd =
      { t.cmd with staging := (t.freeStaging j).cmd.staging } := by cases j <;> rfl
  have hstart : (s.lowerStaging r).Unwaiting := h
  constructor
  case rings => exact hstart.freeStaging e.staging
  case oct =>
    change ((s.lowerStaging r).freeStaging e.staging).cmd.oct = _
    rw [hcmd]
    rfl
  case queue =>
    change ((s.lowerStaging r).freeStaging e.staging).cmd.queue = _
    rw [hcmd]
    rfl
  case staging =>
    intro j
    simp only [OctEntry.freesSlot, hc, Command.isWrite, Bool.true_and, decide_eq_true_eq]
    exact State.freeStaging_staging (s.lowerStaging r) e.staging j
  case buffers =>
    intro j
    simp only [OctEntry.freesBuffer, hc, Command.isRead, Bool.false_and, Bool.false_eq_true, if_false]
    change ((s.lowerStaging r).freeStaging e.staging).cmd.buffers[j] = _
    rw [hcmd]
    rfl
  case copy =>
    change ((s.lowerStaging r).freeStaging e.staging).cmd.statsCopy = _
    rw [hcmd]
    rfl
  case region =>
    intro q
    rw [State.writeTakesEffect_eq, State.region_unstaged]
    by_cases hq : q = r
    · subst hq
      simp [Command.writesTo, hc]
    · have hq' : r ≠ q := fun hrq => hq hrq.symm
      simp [Command.writesTo, hc, hq, hq']
  case stream => simp [State.writeTakesEffect]

theorem State.giveUp_read {s : State} (h : s.Unwaiting) {e : OctEntry} {r : Fin 64} {offset count : Nat} {addr : Addr}
    (hc : e.command = .read r offset count addr) : s.GivesUp (s.freeBuffer e.buffer) e := by
  have hcmd := s.freeBuffer_cmd e.buffer
  constructor
  case rings => exact h.freeBuffer e.buffer
  case oct => rw [hcmd]
  case queue => rw [hcmd]
  case staging =>
    intro j
    rw [hcmd]
    simp only [OctEntry.freesSlot, hc, Command.isWrite, Bool.false_and, Bool.false_eq_true, if_false]
  case buffers =>
    intro j
    simp only [OctEntry.freesBuffer, hc, Command.isRead, Bool.true_and, decide_eq_true_eq]
    exact s.freeBuffer_buffers e.buffer j
  case copy => rw [hcmd]
  case region =>
    intro q
    simp [State.region, Command.writesTo, hc]
  case stream => simp

theorem State.giveUp_gives {s : State} (h : s.Unwaiting) {e : OctEntry} (hb : s.transferBusy e = false) :
    s.GivesUp (s.giveUp e) e := by
  unfold State.giveUp
  split
  next hc => exact State.giveUp_write h hc
  next hc => exact State.giveUp_read h hc
  next hc =>
    have hphase : e.phase ≠ .executingWait := fun hp => by simp [State.transferBusy, hc, hp] at hb
    rw [if_neg hphase]
    exact .nothing (by rw [hc]; rfl) (by rw [hc]; rfl)
  next hwrite hread _ =>
    apply State.GivesUp.nothing
    · unfold Command.isWrite
      split
      next hc => exact (hwrite _ _ _ _ _ hc).elim
      next => rfl
    · unfold Command.isRead
      split
      next hc => exact (hread _ _ _ _ hc).elim
      next => rfl

/-- One abort (R154). -/
theorem State.abortEntry_aborts {s : State} (h : s.Unwaiting) {i : Fin 32} {e : OctEntry}
    (hi : s.idleEntry i = some e) : s.Aborts (s.abortEntry i) [(i, e)] := by
  obtain ⟨he, _, hb⟩ := State.idleEntry_eq_some.1 hi
  have hg := State.giveUp_gives h hb
  have hstart : ({ s.giveUp e with cmd.queue := s.cmd.queue.filter fun k => k ≠ i } : State).entry i = some e := by
    change (s.giveUp e).cmd.oct[i] = some e
    rw [hg.oct]
    exact he
  have habort : s.abortEntry i = State.withCompletion
      { s.giveUp e with cmd.queue := s.cmd.queue.filter fun k => k ≠ i } i e .aborted .zero := by
    simp only [State.abortEntry, he]
    exact State.requestCompletion_eq hstart _ _
  have hposts := (State.requestCompletion_settles
    { s.giveUp e with cmd.queue := s.cmd.queue.filter fun k => k ≠ i } i .aborted .zero).entry
  rw [State.requestCompletion_eq hstart, ← habort, State.completionOf_of_entry hstart] at hposts
  have hsame (j : Fin 32) :
      ({ s.giveUp e with cmd.queue := s.cmd.queue.filter fun k => k ≠ i } : State).entry j = s.entry j := by
    change (s.giveUp e).cmd.oct[j] = s.cmd.oct[j]
    rw [hg.oct]
  constructor
  case entry =>
    intro j
    rw [hposts, hsame]
    rfl
  all_goals rw [habort]
  case rings =>
    have hjoin : (State.withCompletion { s.giveUp e with cmd.queue := s.cmd.queue.filter fun k => k ≠ i } i e .aborted
        .zero).rings = { (s.giveUp e).rings with posting := (s.giveUp e).rings.posting ++ [abortRecord (i, e)] } := rfl
    rw [hjoin, hg.rings]
    rfl
  case queue =>
    refine List.filter_congr fun k _ => ?_
    by_cases hk : k = i
    · simp [hk]
    · have hk' : i ≠ k := fun hik => hk hik.symm
      simp [hk, hk']
  case staging =>
    intro j
    refine (hg.staging j).trans ?_
    simp
  case buffers =>
    intro j
    refine (hg.buffers j).trans ?_
    simp
  case copy => exact hg.copy
  case region =>
    intro r
    refine (hg.region r).trans ?_
    cases hw : e.command.writesTo r <;> simp [hw]
  case stream => exact hg.stream

/-! ## All aborts together -/

/-- A slot that an abort frees had no transfer in progress, so no other entry is busy any less. -/
theorem State.Aborts.transferBusy {s t : State} {i : Fin 32} {e : OctEntry} (h : s.Aborts t [(i, e)])
    (hb : s.transferBusy e = false) (f : OctEntry) : t.transferBusy f = s.transferBusy f := by
  have hstaging : t.stagingBusy f = s.stagingBusy f := by
    unfold State.stagingBusy
    cases hf : f.staging with
    | none => rfl
    | some j =>
      simp only [h.staging j, List.any_cons, List.any_nil, Bool.or_false]
      cases hfree : e.freesSlot j with
      | false => rfl
      | true =>
        have hslot : e.staging = some j := of_decide_eq_true (Bool.and_eq_true_iff.1 hfree).2
        have hquiet : s.stagingBusy e = false := by
          unfold State.transferBusy at hb
          exact (Bool.or_eq_false_iff.1 hb).1
        simp only [State.stagingBusy, hslot] at hquiet
        simp only [if_true]
        exact hquiet.symm
  unfold State.transferBusy
  rw [hstaging]

/-- The other entries are idle as before. -/
theorem State.Aborts.idleEntry {s t : State} {i : Fin 32} {e : OctEntry} (h : s.Aborts t [(i, e)])
    (hb : s.transferBusy e = false) {j : Fin 32} (hj : j ≠ i) : t.idleEntry j = s.idleEntry j := by
  have hentry : t.entry j = s.entry j := by
    have hno : ¬ ∃ c ∈ [(i, e)].map abortRecord, c.entry = some j := by
      simpa [abortRecord] using fun hij : i = j => hj hij.symm
    rw [h.entry]
    cases s.entry j with
    | none => rfl
    | some f => rw [Option.map_some, OctEntry.settledBy_of_not_mem hno]
  simp only [State.idleEntry, hentry, h.transferBusy hb]

/-- The idle entries in these places, with their places. -/
def State.idleEntries (s : State) (l : List (Fin 32)) : List (Fin 32 × OctEntry) :=
  l.filterMap fun i => (s.idleEntry i).map fun e => (i, e)

/-- The aborts go through the places in order, and each finds its entry as it stood at the start. -/
theorem State.abortIdle_fold_aborts {l : List (Fin 32)} (hl : l.Nodup) {s : State} (h : s.Unwaiting) :
    s.Aborts (l.foldl State.abortIdle s) (s.idleEntries l) := by
  induction l generalizing s with
  | nil => exact .refl s
  | cons i l ih =>
    obtain ⟨hi, hl⟩ := List.nodup_cons.1 hl
    rw [List.foldl_cons, State.abortIdle_eq, State.idleEntries, List.filterMap_cons]
    cases he : s.idleEntry i with
    | none => exact ih hl h
    | some e =>
      have hone := State.abortEntry_aborts h he
      obtain ⟨_, _, hb⟩ := State.idleEntry_eq_some.1 he
      have hsame : (s.abortEntry i).idleEntries l = s.idleEntries l :=
        List.filterMap_congr fun j hj => by rw [hone.idleEntry hb fun hji => hi (hji ▸ hj)]
      have hrest := ih hl (hone.unwaiting h)
      rw [hsame] at hrest
      exact hone.trans hrest

theorem State.abortAll_aborts {s : State} (h : s.Unwaiting) :
    s.Aborts s.abortAll (s.idleEntries (List.finRange 32)) :=
  State.abortIdle_fold_aborts (List.nodup_finRange 32) h

/-! ## The aborts as STOP states them -/

theorem State.mem_idleEntries {s : State} {i : Fin 32} {e : OctEntry} :
    (i, e) ∈ s.idleEntries (List.finRange 32) ↔ s.idleEntry i = some e := by
  simp only [State.idleEntries, List.mem_filterMap, List.mem_finRange, true_and, Option.map_eq_some_iff, Prod.mk.injEq]
  constructor
  · rintro ⟨_, _, h, rfl, rfl⟩
    exact h
  · exact fun h => ⟨i, e, h, rfl, rfl⟩

theorem State.any_idleEntries {s : State} {q : OctEntry → Bool} :
    (s.idleEntries (List.finRange 32)).any (fun p => q p.2) = true ↔ ∃ i e, s.idleEntry i = some e ∧ q e = true := by
  rw [List.any_eq_true]
  constructor
  · rintro ⟨⟨i, e⟩, hmem, hq⟩
    exact ⟨i, e, State.mem_idleEntries.1 hmem, hq⟩
  · rintro ⟨i, e, he, hq⟩
    exact ⟨(i, e), State.mem_idleEntries.2 he, hq⟩

theorem State.any_idleEntries_place (s : State) (i : Fin 32) :
    ((s.idleEntries (List.finRange 32)).any fun p => p.1 == i) = (s.idleEntry i).isSome := by
  rw [Bool.eq_iff_iff, List.any_eq_true, Option.isSome_iff_exists]
  constructor
  · rintro ⟨⟨j, e⟩, hmem, hj⟩
    obtain rfl : j = i := by simpa using hj
    exact ⟨e, State.mem_idleEntries.1 hmem⟩
  · rintro ⟨e, he⟩
    exact ⟨(i, e), State.mem_idleEntries.2 he, by simp⟩

theorem State.countP_idleEntries (s : State) (q : OctEntry → Bool) :
    (s.idleEntries (List.finRange 32)).countP (fun p => q p.2) =
      (List.finRange 32).countP fun i => (s.idleEntry i).any q := by
  rw [State.idleEntries, List.countP_filterMap]
  congr 1
  funext i
  cases s.idleEntry i <;> rfl

theorem State.idleEntries_records (s : State) : (s.idleEntries (List.finRange 32)).map abortRecord =
    (List.finRange 32).filterMap fun i => (s.idleEntry i).map fun e => abortRecord (i, e) := by
  rw [State.idleEntries, List.map_filterMap]
  congr 1
  funext i
  rw [Option.map_map]
  rfl

namespace State.Aborts

variable {s t : State} (h : s.Aborts t (s.idleEntries (List.finRange 32)))
include h

theorem entry_eq (i : Fin 32) : t.entry i = match s.idleEntry i with
    | some e => some e.finished
    | none => s.entry i := by
  have hnamed : (∃ c ∈ (s.idleEntries (List.finRange 32)).map abortRecord, c.entry = some i) ↔
      (s.idleEntry i).isSome = true := by
    rw [← s.any_idleEntries_place i]
    simp [abortRecord]
  rw [h.entry]
  cases hi : s.idleEntry i with
  | some e =>
    rw [(State.idleEntry_eq_some.1 hi).1, Option.map_some, OctEntry.settledBy_of_mem (hnamed.2 (by rw [hi]; rfl))]
  | none =>
    have hno := mt hnamed.1 (by simp [hi])
    cases s.entry i with
    | none => rfl
    | some e => rw [Option.map_some, OctEntry.settledBy_of_not_mem hno]

theorem queue_eq : t.cmd.queue = s.cmd.queue.filter fun i => (s.idleEntry i).isNone := by
  rw [h.queue]
  congr 1
  funext i
  rw [s.any_idleEntries_place i, Option.not_isSome]

theorem staging_iff (j : Fin 8) :
    ((∃ i e, s.idleEntry i = some e ∧ e.command.isWrite = true ∧ e.staging = some j) → t.cmd.staging[j] = none) ∧
    ((∀ i e, s.idleEntry i = some e → e.command.isWrite = true → e.staging ≠ some j) →
      t.cmd.staging[j] = s.cmd.staging[j]) := by
  rw [h.staging]
  constructor
  · rintro ⟨i, e, he, hw, hj⟩
    exact if_pos (State.any_idleEntries.2 ⟨i, e, he, by simp [OctEntry.freesSlot, hw, hj]⟩)
  · intro hno
    refine if_neg fun hany => ?_
    obtain ⟨i, e, he, hfree⟩ := State.any_idleEntries.1 hany
    obtain ⟨hw, hj⟩ := Bool.and_eq_true_iff.1 hfree
    exact hno i e he hw (of_decide_eq_true hj)

theorem buffers_iff (j : Fin 4) :
    ((∃ i e, s.idleEntry i = some e ∧ e.command.isRead = true ∧ e.buffer = some j) → t.cmd.buffers[j] = none) ∧
    ((∀ i e, s.idleEntry i = some e → e.command.isRead = true → e.buffer ≠ some j) →
      t.cmd.buffers[j] = s.cmd.buffers[j]) := by
  rw [h.buffers]
  constructor
  · rintro ⟨i, e, he, hr, hj⟩
    exact if_pos (State.any_idleEntries.2 ⟨i, e, he, by simp [OctEntry.freesBuffer, hr, hj]⟩)
  · intro hno
    refine if_neg fun hany => ?_
    obtain ⟨i, e, he, hfree⟩ := State.any_idleEntries.1 hany
    obtain ⟨hr, hj⟩ := Bool.and_eq_true_iff.1 hfree
    exact hno i e he hr (of_decide_eq_true hj)

theorem region_eq (r : Fin 64) : t.region r = { s.region r with
    stagingCount := (s.region r).stagingCount -
      (List.finRange 32).countP fun i => (s.idleEntry i).any fun e => e.command.writesTo r } := by
  rw [h.region, s.countP_idleEntries fun e => e.command.writesTo r]

end State.Aborts

/-! ## The link at STOP (R98) -/

theorem State.stopLink_eq (s : State) : s.stopLink = if s.link.state = .off then s
    else if s.link.state = .rejected then { s with link.state := .off, framer.hello := none }
    else s.linkLoss .stop := by
  unfold State.stopLink
  split
  next h => rw [if_pos h]
  next h => rw [if_neg (by simp [h]), if_pos h]
  next hoff hrejected => rw [if_neg hoff, if_neg hrejected]

/-- Outside RUNNING, ending the link leaves the mirror, the watches, the submission rings and the staging slots. -/
theorem State.stopLink_still {s : State} (h : s.dev.state ≠ .running) : s.LossStill s.stopLink := by
  have hsame : s.LossStill s := ⟨rfl, rfl, rfl, rfl, fun _ => rfl, fun _ => rfl⟩
  rw [State.stopLink_eq]
  split
  · exact hsame
  split
  · exact ⟨rfl, rfl, rfl, rfl, fun _ => rfl, fun _ => rfl⟩
  · exact s.linkLoss_still .stop (.inr h)

/-- Ending the link touches only the counters of the device, and emits nothing. -/
theorem State.stopLink_dev (s : State) : s.stopLink.dev = { s.dev with counters := s.stopLink.dev.counters } ∧
    s.stopLink.emitted = s.emitted := by
  rw [State.stopLink_eq]
  split
  · exact ⟨rfl, rfl⟩
  split
  · exact ⟨rfl, rfl⟩
  · exact ⟨by rw [State.linkLoss_dev]; rfl, s.linkLoss_emitted .stop⟩

/-- A link that seeks or runs is lost with reason STOP. -/
theorem State.stopLink_loses {s : State}
    (h : s.link.state = .seeking ∨ s.link.state = .joining ∨ s.link.state = .syncing ∨ s.link.state = .up) :
    s.stopLink.link.epoch = s.link.epoch + 1 ∧ s.stopLink.framer.bye = some s.link.epoch ∧
    s.stopLink.stream.list = [] ∧ s.stopLink.notif.queue = s.notif.queue ++ [.event (.linkLost .stop)] := by
  have hoff : s.link.state ≠ .off := fun hs => by simp [hs] at h
  have hrejected : s.link.state ≠ .rejected := fun hs => by simp [hs] at h
  rw [State.stopLink_eq, if_neg hoff, if_neg hrejected]
  obtain ⟨hepoch, hbye⟩ := s.linkLoss_off (reason := .stop) rfl
  obtain ⟨_, _, hlist, _⟩ := s.linkLoss_leaves .stop
  exact ⟨hepoch, hbye, hlist, by rw [State.linkLoss_notif]⟩

theorem State.stopLink_quiet {s : State} (h : s.link.state = .off ∨ s.link.state = .rejected) :
    s.stopLink.link.epoch = s.link.epoch ∧ s.stopLink.framer.bye = s.framer.bye ∧
    s.stopLink.notif.queue = s.notif.queue := by
  rw [State.stopLink_eq]
  rcases h with h | h <;> simp [h]

/-! ## The stop reports (R154, R170, R179) -/

theorem State.ringsDone_iff (s : State) : s.ringsDone = true ↔
    s.rings.posting = [] ∧ s.rings.reserved = 0 ∧ s.rings.urgent.fetching = false ∧ s.rings.normal.fetching = false ∧
    ∀ i e, s.entry i = some e → e.phase = .completed ∨ s.transferBusy e = false := by
  have htransfer : s.anyTransfer = false ↔
      ∀ i e, s.entry i = some e → e.phase = .completed ∨ s.transferBusy e = false := by
    rw [State.anyTransfer, List.any_eq_false]
    refine ⟨fun h i e he => ?_, fun h i _ => ?_⟩
    · have hi := h i (List.mem_finRange i)
      simp only [he] at hi
      by_cases hc : e.phase = .completed
      · exact .inl hc
      · exact .inr (by simpa [hc] using hi)
    · split
      next e he =>
        have hi := h i e he
        simp only [Bool.and_eq_true, decide_eq_true_eq, not_and, Bool.not_eq_true]
        exact hi.resolve_left
      next => simp
  simp only [State.ringsDone, Bool.and_eq_true, List.isEmpty_iff, decide_eq_true_eq, Bool.not_eq_true',
    htransfer]
  tauto

theorem State.notifyDone_iff (s : State) : s.notifyDone = true ↔ s.notif.queue = [] ∧ s.notif.writing = none := by
  simp [State.notifyDone]

/-- A report in STOPPING whose condition holds, by whether the other has been made. -/
theorem State.ringsReport_done {s : State} (h : s.dev.state = .stopping) (hd : s.ringsDone = true) :
    s.ringsReport = if s.dev.npReport then { s with dev.rmReport := true, dev.state := .halted }
      else { s with dev.rmReport := true } := by
  rw [State.ringsReport, if_pos ⟨h, hd⟩, State.haltIfReported]
  cases hn : s.dev.npReport <;> simp [h, hn]

theorem State.notifyReport_done {s : State} (h : s.dev.state = .stopping) (hd : s.notifyDone = true) :
    s.notifyReport = if s.dev.rmReport then { s with dev.npReport := true, dev.state := .halted }
      else { s with dev.npReport := true } := by
  rw [State.notifyReport, if_pos ⟨h, hd⟩, State.haltIfReported]
  cases hr : s.dev.rmReport <;> simp [h, hr]

/-- The two reports made at once at STOP. -/
theorem State.reports_eq {s : State} (h : s.dev.state = .stopping) (hr : s.dev.rmReport = false)
    (hn : s.dev.npReport = false) : s.ringsReport.notifyReport = { s with
      dev.state := if s.ringsDone && s.notifyDone then .halted else .stopping
      dev.rmReport := s.ringsDone
      dev.npReport := s.notifyDone } := by
  have hdev : s.dev = { s.dev with state := .stopping, rmReport := false, npReport := false } :=
    calc s.dev = { s.dev with
          state := s.dev.state, rmReport := s.dev.rmReport, npReport := s.dev.npReport } := rfl
      _ = _ := by rw [h, hr, hn]
  by_cases hd : s.ringsDone = true
  · have hrings : s.ringsReport = { s with dev.rmReport := true } := by
      rw [State.ringsReport_done h hd, if_neg (by simp [hn])]
    rw [hrings, hd]
    by_cases hk : s.notifyDone = true
    · rw [State.notifyReport_done (s := { s with dev.rmReport := true }) h hk, if_pos rfl, hk]
      rfl
    · have hstay : ({ s with dev.rmReport := true } : State).notifyReport = { s with dev.rmReport := true } :=
        if_neg fun hs => hk hs.2
      rw [hstay, Bool.eq_false_iff.2 hk]
      exact congrArg (fun d : DeviceBlock => { s with dev := { d with rmReport := true } }) hdev
  · have hrings : s.ringsReport = s := if_neg fun hs => hd hs.2
    rw [hrings, Bool.eq_false_iff.2 hd]
    by_cases hk : s.notifyDone = true
    · rw [State.notifyReport_done h hk, if_neg (by simp [hr]), hk]
      exact congrArg (fun d : DeviceBlock => { s with dev := { d with npReport := true } }) hdev
    · have hstay : s.notifyReport = s := if_neg fun hs => hk hs.2
      rw [hstay, Bool.eq_false_iff.2 hk]
      exact congrArg (fun d : DeviceBlock => { s with dev := d }) hdev

/-! ## STOP -/

/-- The link is ended, admission has stopped and the entries are aborted; the reports are still to be made. -/
def State.stopped (s : State) : State := s.stopAccepted.stopLink.stopAdmission.abortAll

theorem State.stopped_aborts (s : State) : s.stopAccepted.stopLink.stopAdmission.Aborts s.stopped
    (s.stopAccepted.stopLink.stopAdmission.idleEntries (List.finRange 32)) :=
  State.abortAll_aborts ⟨rfl, rfl⟩

/-- What the aborts do not touch. -/
theorem State.stopped_frame (s : State) :
    s.stopped.dev = s.stopAccepted.stopLink.dev ∧ s.stopped.mirror = s.stopAccepted.stopLink.mirror ∧
    s.stopped.sweep = s.stopAccepted.stopLink.sweep ∧ s.stopped.link = s.stopAccepted.stopLink.link ∧
    s.stopped.framer = s.stopAccepted.stopLink.framer ∧ s.stopped.watch = s.stopAccepted.stopLink.watch ∧
    s.stopped.notif = s.stopAccepted.stopLink.notif ∧ s.stopped.emitted = s.stopAccepted.stopLink.emitted := by
  simp [State.stopped, State.stopAdmission]

/-- The rings after the aborts: the records in order, and what the stop of admission drops. -/
theorem State.stopped_rings (s : State) : s.stopped.rings = { s.stopAccepted.stopLink.rings with
    posting := s.stopAccepted.stopLink.rings.posting ++ (List.finRange 32).filterMap fun i =>
      (s.stopAccepted.stopLink.idleEntry i).map fun e => abortRecord (i, e)
    urgent := { s.rings.urgent with copy := none, waiting := none }
    normal := { s.rings.normal with copy := none, waiting := none } } := by
  have hstill := State.stopLink_still (s := s.stopAccepted) (by simp [State.stopAccepted])
  have hurgent : s.stopAccepted.stopLink.rings.urgent = s.rings.urgent := hstill.subRing .urgent
  have hnormal : s.stopAccepted.stopLink.rings.normal = s.rings.normal := hstill.subRing .normal
  rw [s.stopped_aborts.rings, State.idleEntries_records, ← hurgent, ← hnormal]
  rfl

/-- A running part takes STOP: the reports whose conditions hold after the aborts are made at once. -/
theorem State.exec_stop {s : State} (h : s.Runs) : exec .stop s = .next { s.stopped with
    dev.state := if s.stopped.ringsDone && s.stopped.notifyDone then .halted else .stopping
    dev.rmReport := s.stopped.ringsDone
    dev.npReport := s.stopped.notifyDone } := by
  have hdev : s.stopped.dev = { s.stopAccepted.dev with counters := s.stopAccepted.stopLink.dev.counters } :=
    s.stopped_frame.1.trans s.stopAccepted.stopLink_dev.1
  rw [exec_eq_effect h.1]
  refine congrArg Host.Outcome.next ?_
  change s.stopWritten = _
  rw [State.stopWritten_eq, if_pos h.2]
  exact State.reports_eq (s := s.stopped) (by rw [hdev]; rfl) (by rw [hdev]; rfl) (by rw [hdev]; rfl)

/-- Settles O7: the link's end, the stop of admission, the aborts and the reports, each by its own rule above. -/
theorem stopEndsTheWork : Obligations.StopEndsTheWork := by
  unfold Obligations.StopEndsTheWork
  refine ⟨fun s hs => ?_, fun s hp hstate hpost hres hfu hfn hentries => ?_, fun s hp hstate hqueue hwriting => ?_⟩
  · intro asked ended idle isWrite isRead writes
    have hended : ended = s.stopAccepted.stopLink := s.stopAccepted.stopLink_eq.symm
    clear_value ended
    subst hended
    have haborts := s.stopped_aborts
    have hstill := State.stopLink_still (s := s.stopAccepted) (by simp [State.stopAccepted])
    obtain ⟨hdev, hemitted⟩ := s.stopAccepted.stopLink_dev
    have hfetching (ring : Ring) : (s.stopped.subRing ring).fetching = (s.subRing ring).fetching := by
      cases ring <;> simp only [State.subRing, State.stopped_rings]
    have hloses := State.stopLink_loses (s := s.stopAccepted)
    have hquiet := State.stopLink_quiet (s := s.stopAccepted)
    refine ⟨_, State.exec_stop hs, ?_⟩
    have hrings := s.stopped_rings
    obtain ⟨hudev, hmirror, hsweep, hlink, hframer, hwatch, hnotif, huemitted⟩ := s.stopped_frame
    generalize s.stopped = u at *
    have hreports : (u.ringsDone && u.notifyDone) = true ↔ u.ringsDone = true ∧ u.notifyDone = true :=
      Bool.and_eq_true_iff
    rw [u.ringsDone_iff, u.notifyDone_iff] at hreports
    refine ⟨hrings, haborts.entry_eq, haborts.queue_eq, haborts.staging_iff, haborts.buffers_iff, haborts.copy,
      haborts.region_eq, ⟨?_, u.ringsDone_iff, u.notifyDone_iff, fun h => if_pos (hreports.2 h),
        fun h => if_neg (mt hreports.1 h)⟩,
      hlink, hframer, hsweep, hnotif, haborts.stream, huemitted.trans hemitted, ?_, hfetching, fun h => ?_, fun h => ?_,
      hmirror.trans hstill.mirror, hwatch.trans hstill.watch, ?_⟩
    · simp only [hudev]
    · exact (congrArg LinkBlock.state hlink).trans s.stopAccepted.stopLink_leaves.2
    · obtain ⟨hepoch, hbye, hlist, hqueue⟩ := hloses h
      have hulist : u.stream.list = [] := by rw [haborts.stream]; exact hlist
      exact ⟨(congrArg LinkBlock.epoch hlink).trans hepoch, (congrArg FramerBlock.bye hframer).trans hbye, hulist,
        (congrArg NotifyBlock.queue hnotif).trans hqueue⟩
    · obtain ⟨hepoch, hbye, hqueue⟩ := hquiet h
      exact ⟨(congrArg LinkBlock.epoch hlink).trans hepoch, (congrArg FramerBlock.bye hframer).trans hbye,
        (congrArg NotifyBlock.queue hnotif).trans hqueue⟩
    · exact (congrArg DeviceBlock.setup (hudev.trans hdev)).trans rfl
  · rw [exec_eq_effect hp]
    exact congrArg Host.Outcome.next
      (State.ringsReport_done hstate (s.ringsDone_iff.2 ⟨hpost, hres, hfu, hfn, hentries⟩))
  · rw [exec_eq_effect hp]
    exact congrArg Host.Outcome.next (State.notifyReport_done hstate (s.notifyDone_iff.2 ⟨hqueue, hwriting⟩))

end Sys2Proof.Machine
end

section
/-! The CRC-32 as a map of bytes: a byte that differs makes the value differ, and a damaged frame is not taken (R104,
R105). -/

namespace Sys2Proof.Machine

/-! ## The remainder register (R104) -/

/-- Bit 31 of the register after a bit has entered is the bit that was shifted out, since the generator has it set. -/
theorem crcBit_msb (r : BitVec 32) : (crcBit r).getLsbD 31 = r.getLsbD 0 := by
  have hshift : (r >>> 1).getLsbD 31 = false := by simp
  have hgenerator : crcGenerator.getLsbD 31 = true := by decide
  unfold crcBit
  split
  next h => rw [BitVec.getLsbD_xor, hshift, hgenerator, h]; rfl
  next h => rw [hshift, Bool.eq_false_of_not_eq_true h]

/-- A register is its lowest bit and the rest. -/
theorem eq_of_lsb_of_shift {r q : BitVec 32} (hlow : r.getLsbD 0 = q.getLsbD 0) (hshift : r >>> 1 = q >>> 1) :
    r = q := by
  refine BitVec.eq_of_getLsbD_eq fun i _ => ?_
  cases i with
  | zero => exact hlow
  | succ i => simpa [Nat.add_comm] using congrArg (BitVec.getLsbD · i) hshift

theorem crcBit_injective : Function.Injective crcBit := by
  intro r q h
  have hlow : r.getLsbD 0 = q.getLsbD 0 := by rw [← crcBit_msb, h, crcBit_msb]
  refine eq_of_lsb_of_shift hlow ?_
  unfold crcBit at h
  rw [hlow] at h
  split at h
  · exact (BitVec.xor_left_inj _).1 h
  · exact h

theorem crcByte_eq_iterate (r : BitVec 32) (b : Byte) : crcByte r b = crcBit^[8] (r ^^^ b.setWidth 32) := rfl

/-- The same byte keeps different registers different. -/
theorem crcByte_injective_register (b : Byte) : Function.Injective (crcByte · b) := fun _ _ h =>
  (BitVec.xor_left_inj _).1 ((crcBit_injective.iterate 8) h)

/-- Different bytes make the same register different. -/
theorem crcByte_injective_byte (r : BitVec 32) : Function.Injective (crcByte r) := by
  intro b d h
  have hwide : b.setWidth 32 = d.setWidth 32 := (BitVec.xor_right_inj _).1 ((crcBit_injective.iterate 8) h)
  simpa using congrArg (BitVec.setWidth 8) hwide

theorem foldl_crcByte_injective (l : List Byte) : Function.Injective fun r => l.foldl crcByte r := by
  induction l with
  | nil => exact Function.injective_id
  | cons b l ih => exact ih.comp (crcByte_injective_register b)

theorem crc32_ne_of_byte_ne (before after : List Byte) {b d : Byte} (h : b ≠ d) :
    crc32 (before ++ b :: after) ≠ crc32 (before ++ d :: after) := by
  intro heq
  have hfold := BitVec.not_inj.1 heq
  simp only [List.foldl_append, List.foldl_cons] at hfold
  exact h (crcByte_injective_byte _ (foldl_crcByte_injective after hfold))

/-! ## The four bytes at the end (R104) -/

/-- The last four bytes hold the CRC-32 of the bytes before them. -/
def CrcFits (bytes : List Byte) : Prop :=
  (crc32 (bytes.take (bytes.length - 4))).toNat = leNat (bytes.drop (bytes.length - 4))

theorem integrityHolds_iff (bytes : List Byte) : integrityHolds bytes = true ↔ 8 ≤ bytes.length ∧ CrcFits bytes := by
  simp [integrityHolds, CrcFits]

@[simp] theorem Frame.length_bytes (f : Frame) : f.bytes.length = f.content.length + 4 := by simp [Frame.bytes]

theorem Frame.take_bytes (f : Frame) : f.bytes.take (f.bytes.length - 4) = f.content := by
  simp [Frame.bytes]

theorem Frame.crcFits_bytes (f : Frame) : CrcFits f.bytes := by
  have hdrop : f.bytes.drop (f.bytes.length - 4) = leBytes 4 (crc32 f.content).toNat := by simp [Frame.bytes]
  rw [CrcFits, Frame.take_bytes, hdrop, leNat_leBytes, Nat.mod_eq_of_lt (b := 256 ^ 4) (crc32 f.content).isLt]

/-- A byte in one place tells the numbers of two fields apart. -/
theorem leNat_ne_of_byte_ne (before after : List Byte) {b d : Byte} (h : b ≠ d) :
    leNat (before ++ b :: after) ≠ leNat (before ++ d :: after) := by
  intro heq
  rw [leNat_append, leNat_append] at heq
  have htail := Nat.eq_of_mul_eq_mul_left (by positivity) (Nat.add_left_cancel heq)
  simp only [leNat] at htail
  exact h (BitVec.eq_of_toNat_eq (by omega))

/-- A changed byte breaks the fit: before the last four it changes their CRC-32, among them what they hold. -/
theorem CrcFits.not_of_byte_ne {before after : List Byte} {b d : Byte} (hfits : CrcFits (before ++ b :: after))
    (hne : b ≠ d) : ¬ CrcFits (before ++ d :: after) := by
  intro hdamaged
  simp only [CrcFits, List.length_append, List.length_cons] at hfits hdamaged
  generalize before.length + (after.length + 1) - 4 = cut at hfits hdamaged
  rcases Nat.lt_or_ge before.length cut with hcut | hcut
  · obtain ⟨k, rfl⟩ := Nat.exists_eq_add_of_lt hcut
    simp only [Nat.add_assoc, List.take_length_add_append, List.drop_length_add_append, List.take_succ_cons,
      List.drop_succ_cons] at hfits hdamaged
    exact crc32_ne_of_byte_ne before _ hne (BitVec.eq_of_toNat_eq (hfits.trans hdamaged.symm))
  · simp only [List.take_append_of_le_length hcut, List.drop_append_of_le_length hcut] at hfits hdamaged
    exact leNat_ne_of_byte_ne _ after hne (hfits.symm.trans hdamaged)

theorem checkFrame_none_of_not_crcFits {bytes : List Byte} (h : ¬ CrcFits bytes) : checkFrame bytes = none := by
  have hfails : integrityHolds bytes = false :=
    Bool.eq_false_of_not_eq_true fun hi => h ((integrityHolds_iff bytes).1 hi).2
  simp [checkFrame, hfails]

/-- Settles O34: the register tells one byte apart at every place, and so does the fit of the last four bytes. -/
theorem oneDamagedByteIsCaught : Obligations.OneDamagedByteIsCaught := by
  unfold Obligations.OneDamagedByteIsCaught
  refine ⟨fun before after b d hne => crc32_ne_of_byte_ne before after hne, fun f before after b d hbytes hne => ?_⟩
  have hfits : CrcFits (before ++ b :: after) := hbytes ▸ f.crcFits_bytes
  exact checkFrame_none_of_not_crcFits (hfits.not_of_byte_ne hne)

end Sys2Proof.Machine
end

section
/-! The receive assembly, the bytes that pass the checks, and the end of a transmission (R102, R105 to R107). -/

namespace Sys2Proof.Machine

/-! ## The checks (R103, R105) -/

/-- The last word of the bytes is the CRC-32 of the rest where the last four bytes fit. -/
theorem wordAt_last_iff {bytes : List Byte} (h : 8 ≤ bytes.length) :
    wordAt bytes (bytes.length - 4) = crc32 (bytes.take (bytes.length - 4)) ↔ CrcFits bytes := by
  have hlast : fieldAt bytes (bytes.length - 4) 4 = leNat (bytes.drop (bytes.length - 4)) := by
    rw [fieldAt, List.take_of_length_le (by simp; omega)]
  rw [CrcFits, ← hlast, ← toNat_wordAt, eq_comm, BitVec.toNat_inj]

/-- The bytes that R103 to R105 let pass are those that pass the model's three checks. -/
theorem framePasses_iff (bytes : List Byte) :
    FramePasses bytes ↔ (integrityHolds bytes && kindHolds bytes && lengthHolds bytes) = true := by
  rw [Bool.and_eq_true, Bool.and_eq_true, integrityHolds_iff, FramePasses, and_assoc, and_assoc]
  refine and_congr_right fun hlen => and_congr (wordAt_last_iff hlen) ?_
  simp only [kindHolds, lengthHolds, fieldAt_one, Bool.and_eq_true, decide_eq_true_eq]
  generalize (byteAt bytes 0).toNat = kind
  -- one case for each kind code, and one for every other number
  split <;> simp [and_assoc]

theorem checkFrame_isSome_iff (bytes : List Byte) : (checkFrame bytes).isSome = true ↔ FramePasses bytes := by
  rw [framePasses_iff, checkFrame]
  split
  next h => simp [h]
  next h => simp [h]

/-! ## The assembly (R102, R105, R106) -/

theorem Assembly.judge_cut (a : Assembly) : a.judge true = none := rfl

theorem Assembly.judge_none {a : Assembly} (h : a.discard = true ∨ checkFrame a.bytes = none) :
    a.judge false = none := by
  rcases h with h | h <;> simp [Assembly.judge, h]

theorem Assembly.judge_some {a : Assembly} {f : Frame} (hkept : a.discard = false) (hf : checkFrame a.bytes = some f) :
    a.judge false = some f := by
  simp [Assembly.judge, hkept, hf]

theorem State.frameEnded_bad {s : State} {a : Assembly} {cut : Bool} (h : a.judge cut = none) :
    s.frameEnded a cut = s.counted .framesBad := by
  simp only [State.frameEnded, h, State.raise_eq]

theorem State.frameEnded_good {s : State} {a : Assembly} {f : Frame} {cut : Bool} (h : a.judge cut = some f) :
    s.frameEnded a cut = { s.counted .framesReceived with
      framer.heldFrames := s.framer.heldFrames ++ [f], pinLinkAct := true } := by
  simp only [State.frameEnded, h, State.raise_eq]

/-! ## The indications (R102, R106) -/

/-- A working part takes a start delimiter: a frame still being collected is ended as cut. -/
theorem State.frameBegins_working {s : State} (hw : s.working = true) : s.frameBegins = match s.framer.assembly with
    | none => { s with framer.assembly := some { bytes := [], discard := false } }
    | some _ => { s.counted .framesBad with framer.assembly := some { bytes := [], discard := false } } := by
  rw [State.frameBegins, if_pos hw]
  cases s.framer.assembly with
  | none => rfl
  | some a => simp only [State.frameEnded_bad a.judge_cut]; rfl

/-- A working part takes an end delimiter in a frame. -/
theorem State.frameEnds_collecting {s : State} {a : Assembly} (hw : s.working = true)
    (ha : s.framer.assembly = some a) : s.frameEnds false = { s.frameEnded a false with framer.assembly := none } := by
  simp only [State.frameEnds, hw, ha, if_true, Bool.false_eq_true, if_false]

theorem State.collecting_some {s : State} {a : Assembly} (hw : s.working = true) (ha : s.framer.assembly = some a)
    (f : Assembly → Assembly) : s.collecting f = { s with framer.assembly := some (f a) } := by
  simp only [State.collecting, hw, ha, if_true, Option.map_some]

/-- Outside a frame nothing is collected. -/
theorem State.collecting_none {s : State} (ha : s.framer.assembly = none) (f : Assembly → Assembly) :
    s.collecting f = s := by
  have hsame : { s with framer.assembly := s.framer.assembly.map f } = s := by
    rw [ha, Option.map_none, ← ha]
  rw [State.collecting, hsame, ite_self]

theorem State.frameEnds_none {s : State} (ha : s.framer.assembly = none) : s.frameEnds false = s := by
  simp [State.frameEnds, ha]

/-- The receive pair is ignored outside RUNNING and STOPPING (R106). -/
theorem State.receive_idle {s : State} (hw : s.working = false) (cut : Bool) (f : Assembly → Assembly) :
    s.frameBegins = s ∧ s.collecting f = s ∧ s.frameEnds cut = s := by
  have hbegins : s.frameBegins = s := by simp [State.frameBegins, hw]
  exact ⟨hbegins, by simp [State.collecting, hw], by simp [State.frameEnds, hbegins, hw]⟩

theorem State.transmitEnds_eq {s : State} {f : Frame} (h : s.framer.transmitting = some f) :
    s.transmitEnds = { s with framer.transmitting := none, emitted := .lineFrame f.bytes :: s.emitted } := by
  simp only [State.transmitEnds, h]

/-- Settles O32: each indication by its rule above, and the checks by `framePasses_iff`. -/
theorem receiveAssemblyAndSend : Obligations.ReceiveAssemblyAndSend := by
  unfold Obligations.ReceiveAssemblyAndSend
  refine ⟨fun s h => ?_, fun s => rfl, fun s a b h ha => ?_, fun s a h ha => ?_, fun s a h ha hbad => ?_,
    fun s a f h ha hkept hf => ?_, fun s b h ha => ?_, fun s b cut hp hw => ?_, fun s f hp hf => ?_, fun b => ?_⟩
  · rw [exec_eq_effect h.1]
    exact congrArg _ (State.frameBegins_working h.2)
  · rw [exec_eq_effect h.1]
    exact congrArg _ (State.collecting_some h.2 ha _)
  · rw [exec_eq_effect h.1]
    exact congrArg _ (State.collecting_some h.2 ha _)
  · rw [exec_eq_effect h.1, State.effect, State.frameEnds_collecting h.2 ha,
      State.frameEnded_bad (Assembly.judge_none hbad)]
  · rw [exec_eq_effect h.1, State.effect, State.frameEnds_collecting h.2 ha,
      State.frameEnded_good (Assembly.judge_some hkept hf)]
  · simp only [exec_eq_effect h.1]
    exact ⟨congrArg _ (State.collecting_none ha _), congrArg _ (State.collecting_none ha _),
      congrArg _ (State.frameEnds_none ha)⟩
  · simp only [exec_eq_effect hp]
    have hidle := State.receive_idle hw cut
    exact ⟨congrArg _ (hidle id).1, congrArg _ (hidle _).2.1, congrArg _ (hidle _).2.1, congrArg _ (hidle id).2.2⟩
  · rw [exec_eq_effect hp]
    exact congrArg _ (State.transmitEnds_eq hf)
  · rw [← checkFrame_isSome_iff, Option.not_isSome_iff_eq_none]
    exact ⟨Option.isSome_iff_exists.1, id⟩

end Sys2Proof.Machine
end

section
/-! The frames as bytes: where 11.7 puts each field, and that the framer reads every frame back whole (R103 to R105,
R185, R186). -/

namespace Sys2Proof.Machine

/-! ## Fields of bytes written one after another (R185) -/

@[simp] theorem fieldAt_cons_zero (x : Byte) (l : List Byte) (n : Nat) :
    fieldAt (x :: l) 0 (n + 1) = x.toNat + 256 * fieldAt l 0 n := by simp [fieldAt, leNat]

@[simp] theorem fieldAt_cons_succ (x : Byte) (l : List Byte) (o n : Nat) :
    fieldAt (x :: l) (o + 1) n = fieldAt l o n := by simp [fieldAt]

@[simp] theorem fieldAt_half (v : BitVec 16) (l : List Byte) : fieldAt (leBytes 2 v.toNat ++ l) 0 2 = v.toNat := by
  rw [fieldAt_leBytes, Nat.mod_eq_of_lt (b := 256 ^ 2) v.isLt]

@[simp] theorem fieldAt_word (v : Word) (l : List Byte) : fieldAt (leBytes 4 v.toNat ++ l) 0 4 = v.toNat := by
  rw [fieldAt_leBytes, Nat.mod_eq_of_lt (b := 256 ^ 4) v.isLt]

@[simp] theorem fieldAt_past_half (v : Nat) (l : List Byte) (o n : Nat) :
    fieldAt (leBytes 2 v ++ l) (o + 2) n = fieldAt l o n := by simp [fieldAt_append_right]

@[simp] theorem fieldAt_past_word (v : Nat) (l : List Byte) (o n : Nat) :
    fieldAt (leBytes 4 v ++ l) (o + 4) n = fieldAt l o n := by simp [fieldAt_append_right]

/-- A word keeps its place among the words. -/
theorem fieldAt_wordBytes {ws : List Word} {k : Nat} {w : Word} (h : ws[k]? = some w) (l : List Byte) :
    fieldAt (wordBytes ws ++ l) (4 * k) 4 = w.toNat := by
  induction ws generalizing k with
  | nil => simp at h
  | cons v ws ih =>
    have hbytes : wordBytes (v :: ws) ++ l = leBytes 4 v.toNat ++ (wordBytes ws ++ l) := by simp [wordBytes]
    rw [hbytes]
    cases k with
    | zero =>
      obtain rfl : v = w := by simpa using h
      simp
    | succ k => rw [Nat.mul_succ, fieldAt_past_word, ih (by simpa using h)]

/-- The byte that a map of numbers puts at a place. -/
theorem fieldAt_map_range (f : Nat → Byte) {n k : Nat} (h : k < n) :
    fieldAt ((List.range n).map f) k 1 = (f k).toNat := by
  have hlen : k < ((List.range n).map f).length := by simpa using h
  rw [fieldAt, List.drop_eq_getElem_cons hlen]
  simp [leNat]

/-! ## The packed maps of HELLO (11.7) -/

theorem itemAt_fin {α : Type} {n : Nat} (v : Vector α n) (r : Fin n) (other : α) : itemAt v r.val other = v[r] := by
  simp [itemAt]

@[simp] theorem length_classMapBytes (v : Vector (BitVec 2) 64) : (classMapBytes v).length = 16 := by
  simp [classMapBytes]

@[simp] theorem length_claimMapBytes (v : Vector Bool 64) : (claimMapBytes v).length = 8 := by
  simp [claimMapBytes]

/-- The digit at a place of a number written in a base. -/
theorem ofDigits_digit {p : Nat} {digits : List Nat} (hp : 1 < p) (h : ∀ d ∈ digits, d < p) {m : Nat}
    (hm : m < digits.length) : Nat.ofDigits p digits / p ^ m % p = digits[m] := by
  rw [Nat.ofDigits_div_pow_eq_ofDigits_drop m (by omega) digits h, List.drop_eq_getElem_cons hm, Nat.ofDigits_cons,
    Nat.add_mul_mod_self_left, Nat.mod_eq_of_lt (h _ (List.getElem_mem hm))]

/-- A byte that packs the values of `d` in base `p` holds each of them in its place. -/
theorem packed_digit {p k : Nat} {d : Nat → Nat} {byte : Nat} (hp : 1 < p) (hk : p ^ k = 256) (hd : ∀ i, d i < p)
    (hbyte : byte = Nat.ofDigits p ((List.range k).map d)) {m : Nat} (hm : m < k) :
    (BitVec.ofNat 8 byte).toNat / p ^ m % p = d m := by
  have hdigits : ∀ x ∈ (List.range k).map d, x < p := by simpa using fun i _ => hd i
  have hlt : byte < 256 := by
    rw [hbyte, ← hk]
    exact (Nat.ofDigits_lt_base_pow_length hp hdigits).trans_eq (by simp)
  rw [BitVec.toNat_ofNat, Nat.mod_eq_of_lt hlt, hbyte, ofDigits_digit hp hdigits (by simpa using hm)]
  simp

/-- The class of a region is the digit of its place in base 4. -/
theorem classMapBytes_digit (v : Vector (BitVec 2) 64) (r : Fin 64) (l : List Byte) :
    fieldAt (classMapBytes v ++ l) (r.val / 4) 1 / 4 ^ (r.val % 4) % 4 = v[r].toNat := by
  rw [fieldAt_append_left (by simp; omega), classMapBytes, fieldAt_map_range _ (by omega),
    packed_digit (k := 4) (d := fun i => (itemAt v (4 * (r.val / 4) + i) 0).toNat) (by decide) rfl
      (fun i => (itemAt v _ 0).isLt) (by simp [List.range_succ, Nat.ofDigits]; ring) (by omega),
    Nat.div_add_mod, itemAt_fin]

/-- The claim bit of a region is the digit of its place in base 2. -/
theorem claimMapBytes_digit (v : Vector Bool 64) (r : Fin 64) (l : List Byte) :
    fieldAt (claimMapBytes v ++ l) (r.val / 8) 1 / 2 ^ (r.val % 8) % 2 = bit v[r] := by
  rw [fieldAt_append_left (by simp; omega), claimMapBytes, fieldAt_map_range _ (by omega),
    packed_digit (k := 8) (d := fun i => bit (itemAt v (8 * (r.val / 8) + i) false)) (by decide) rfl
      (fun i => by simp only [bit]; split <;> decide) (by simp [List.range_succ, Nat.ofDigits]; ring) (by omega),
    Nat.div_add_mod, itemAt_fin]

/-- The flags of a byte that holds up to three of them, and its other bits. -/
theorem flags_of_byteAt {b : List Byte} {o : Nat} {x y z : Bool}
    (h : byteAt b o = BitVec.ofNat 8 (bit x + 2 * bit y + 4 * bit z)) :
    flagAt b o 0 = x ∧ flagAt b o 1 = y ∧ flagAt b o 2 = z ∧ clearFrom b o 3 := by
  rw [clearFrom_iff, fieldAt_one]
  simp only [flagAt_eq, h]
  cases x <;> cases y <;> cases z <;> decide

/-- The flag of a byte that holds no other. -/
theorem flag_of_byteAt {b : List Byte} {o : Nat} {x : Bool} (h : byteAt b o = BitVec.ofNat 8 (bit x)) :
    flagAt b o 0 = x ∧ clearFrom b o 1 := by
  rw [clearFrom_iff, fieldAt_one]
  simp only [flagAt_eq, h]
  cases x <;> decide

/-! ## The bytes of each kind (11.7) -/

section
variable {f : Frame}

theorem Frame.content_hello {h : HelloBody} (hf : f.body = .hello h) :
    f.content = 1 :: (leBytes 2 f.epoch.toNat ++ (leBytes 2 h.nodeId.toNat ++ (leBytes 2 (h.heard.getD 0).toNat ++
      BitVec.ofNat 8 (bit h.heard.isSome + 2 * bit h.joined + 4 * bit h.content.fresh) ::
        (leBytes 2 h.content.sweepPeriod.toNat ++ 0 :: 0 :: (classMapBytes h.content.classMap ++
          (claimMapBytes h.content.claims ++ wordBytes h.content.generations.toList)))))) := by
  simp [Frame.content, hf, FrameBody.kindCode, FrameBody.bytes, HelloBody.bytes, wordBytes]

variable {seq acked region : Byte}

theorem Frame.content_update {offset : Byte} {words : List Word} {last refresh lastOfRegion : Bool}
    (hf : f.body = .sequenced seq acked (.update region offset words last refresh lastOfRegion)) :
    f.content = 2 :: (leBytes 2 f.epoch.toNat ++ seq :: acked :: region :: offset :: BitVec.ofNat 8 words.length ::
      BitVec.ofNat 8 (bit last + 2 * bit refresh + 4 * bit lastOfRegion) :: 0 :: 0 :: 0 :: wordBytes words) := by
  simp [Frame.content, hf, FrameBody.kindCode, FrameBody.bytes, SeqContent.bytes]

theorem Frame.content_ownReq {generation : BitVec 32} {noWait : Bool}
    (hf : f.body = .sequenced seq acked (.ownReq region generation noWait)) :
    f.content = 3 :: (leBytes 2 f.epoch.toNat ++ seq :: acked :: region :: BitVec.ofNat 8 (bit noWait) :: 0 ::
      (leBytes 4 generation.toNat ++ [0, 0, 0, 0])) := by
  simp [Frame.content, hf, FrameBody.kindCode, FrameBody.bytes, SeqContent.bytes]

theorem Frame.content_ownGrant {generation : BitVec 32} {words : Option (List Word)}
    (hf : f.body = .sequenced seq acked (.ownGrant region generation words)) :
    f.content = 4 :: (leBytes 2 f.epoch.toNat ++ seq :: acked :: region :: 0 :: 0 ::
      (leBytes 4 generation.toNat ++ wordBytes (words.getD []))) := by
  simp [Frame.content, hf, FrameBody.kindCode, FrameBody.bytes, SeqContent.bytes]

theorem Frame.content_ownDeny {reason : Byte} (hf : f.body = .sequenced seq acked (.ownDeny region reason)) :
    f.content = 5 :: (leBytes 2 f.epoch.toNat ++ [seq, acked, region, reason, 0, 0, 0, 0, 0]) := by
  simp [Frame.content, hf, FrameBody.kindCode, FrameBody.bytes, SeqContent.bytes]

theorem Frame.content_syncDone (hf : f.body = .sequenced seq acked .syncDone) :
    f.content = 6 :: (leBytes 2 f.epoch.toNat ++ [seq, acked, 0, 0, 0]) := by
  simp [Frame.content, hf, FrameBody.kindCode, FrameBody.bytes, SeqContent.bytes]

theorem Frame.content_ack {value : Byte} (hf : f.body = .ack value) :
    f.content = 7 :: (leBytes 2 f.epoch.toNat ++ [value]) := by
  simp [Frame.content, hf, FrameBody.kindCode, FrameBody.bytes]

theorem Frame.content_snapshot {sweep : BitVec 16} {generation : BitVec 32} {words : List Word}
    (hf : f.body = .snapshot region sweep generation words) :
    f.content = 8 :: (leBytes 2 f.epoch.toNat ++ region :: (leBytes 2 sweep.toNat ++ 0 :: 0 ::
      (leBytes 4 generation.toNat ++ wordBytes words))) := by
  simp [Frame.content, hf, FrameBody.kindCode, FrameBody.bytes]

theorem Frame.content_idle (hf : f.body = .idle) : f.content = 9 :: (leBytes 2 f.epoch.toNat ++ [0]) := by
  simp [Frame.content, hf, FrameBody.kindCode, FrameBody.bytes]

theorem Frame.content_bye (hf : f.body = .bye) : f.content = 10 :: (leBytes 2 f.epoch.toNat ++ [0]) := by
  simp [Frame.content, hf, FrameBody.kindCode, FrameBody.bytes]
end

/-! ## What is read in a HELLO and in an UPDATE (11.7)

Each fact holds of the content with any bytes after it: with none for the framer's reading, with the CRC-32 for the whole
frame. -/

section
variable {f : Frame} {h : HelloBody} (hf : f.body = .hello h) (l : List Byte)
include hf

/-- After the twelve bytes before them come the maps and the generations. -/
theorem Frame.fieldAt_hello_maps (o n : Nat) :
    fieldAt (f.content ++ l) (o + 12) n = fieldAt (classMapBytes h.content.classMap ++
      (claimMapBytes h.content.claims ++ (wordBytes h.content.generations.toList ++ l))) o n := by
  simp [Frame.content_hello hf]

theorem Frame.hello_classDigit (r : Fin 64) :
    fieldAt (f.content ++ l) (0x0C + r.val / 4) 1 / 4 ^ (r.val % 4) % 4 = h.content.classMap[r].toNat := by
  rw [Nat.add_comm, Frame.fieldAt_hello_maps hf, classMapBytes_digit]

theorem Frame.hello_claimFlag (r : Fin 64) :
    flagAt (f.content ++ l) (0x1C + r.val / 8) (r.val % 8) = h.content.claims[r] := by
  rw [flagAt, show 0x1C + r.val / 8 = (16 + r.val / 8) + 12 by omega, Frame.fieldAt_hello_maps hf,
    fieldAt_append_right (by simp), length_classMapBytes, Nat.add_sub_cancel_left, Nat.testBit_eq_decide_div_mod_eq,
    claimMapBytes_digit]
  cases h.content.claims[r] <;> rfl

theorem Frame.hello_generation (r : Fin 64) :
    fieldAt (f.content ++ l) (0x24 + 4 * r.val) 4 = h.content.generations[r].toNat := by
  rw [show 0x24 + 4 * r.val = (24 + 4 * r.val) + 12 by omega, Frame.fieldAt_hello_maps hf,
    fieldAt_append_right (by simp; omega), length_classMapBytes, fieldAt_append_right (by simp; omega),
    length_claimMapBytes, show 24 + 4 * r.val - 16 - 8 = 4 * r.val by omega]
  exact fieldAt_wordBytes (by simp) l

theorem Frame.hello_flagByte :
    byteAt (f.content ++ l) 0x07 =
      BitVec.ofNat 8 (bit h.heard.isSome + 2 * bit h.joined + 4 * bit h.content.fresh) := by
  simp [byteAt, Frame.content_hello hf, -BitVec.toNat_ofNat]

theorem Frame.hello_heard : fieldAt (f.content ++ l) 0x05 2 = (h.heard.getD 0).toNat := by
  simp [Frame.content_hello hf]

/-- The framer reads a HELLO back whole. -/
theorem Frame.readHello_content : readHello f.content = h := by
  have hclass := Frame.hello_classDigit hf []
  have hclaim := Frame.hello_claimFlag hf []
  have hgeneration := Frame.hello_generation hf []
  have hepoch := Frame.hello_heard hf []
  obtain ⟨hheard, hjoined, hfresh, -⟩ := flags_of_byteAt (Frame.hello_flagByte hf [])
  rw [List.append_nil] at hclass hclaim hgeneration hepoch hheard hjoined hfresh
  have hcontent := Frame.content_hello hf
  obtain ⟨nodeId, heard, joined, ⟨fresh, sweep, classes, claims, generations⟩⟩ := h
  simp only [readHello, HelloBody.mk.injEq, HelloContent.mk.injEq]
  refine ⟨?_, ?_, hjoined, hfresh, ?_, ?_, ?_, ?_⟩
  · simp [hcontent]
  · rw [hheard, hepoch]
    cases heard <;> simp
  · simp [hcontent]
  · ext1 r hr
    rw [Vector.getElem_ofFn]
    exact BitVec.eq_of_toNat_eq ((BitVec.toNat_ofNat ..).trans (hclass ⟨r, hr⟩))
  · ext1 r hr
    rw [Vector.getElem_ofFn]
    exact hclaim ⟨r, hr⟩
  · ext1 r hr
    rw [Vector.getElem_ofFn, hgeneration ⟨r, hr⟩]
    simp
end

theorem Frame.update_flagByte {f : Frame} {seq acked region offset : Byte} {words : List Word}
    {last refresh lastOfRegion : Bool}
    (hf : f.body = .sequenced seq acked (.update region offset words last refresh lastOfRegion)) (l : List Byte) :
    byteAt (f.content ++ l) 0x08 = BitVec.ofNat 8 (bit last + 2 * bit refresh + 4 * bit lastOfRegion) := by
  simp [byteAt, Frame.content_update hf, -BitVec.toNat_ofNat]

theorem Frame.ownReq_flagByte {f : Frame} {seq acked region : Byte} {generation : BitVec 32} {noWait : Bool}
    (hf : f.body = .sequenced seq acked (.ownReq region generation noWait)) (l : List Byte) :
    byteAt (f.content ++ l) 0x06 = BitVec.ofNat 8 (bit noWait) := by
  simp [byteAt, Frame.content_ownReq hf, -BitVec.toNat_ofNat]

/-! ## The framer's reading (R103, R105) -/

/-- The framer reads the body of every frame of a permitted shape back whole. -/
theorem Frame.readBody_content (f : Frame) (h : f.body.permitted = true) : readBody f.content = f.body := by
  cases hf : f.body with
  | hello h =>
    have hread : readBody f.content = .hello (readHello f.content) := by simp [readBody, Frame.content_hello hf]
    rw [hread, Frame.readHello_content hf]
  | sequenced seq acked content =>
    cases content with
    | update region offset words last refresh lastOfRegion =>
      have hwords : bytesWords (f.content.drop 0x0C) = words := by
        rw [Frame.content_update hf]
        exact bytesWords_wordBytes words
      obtain ⟨hlast, hrefresh, hregion, -⟩ := flags_of_byteAt (Frame.update_flagByte hf [])
      rw [List.append_nil] at hlast hrefresh hregion
      have hkind : fieldAt f.content 0 1 = 2 := by simp [Frame.content_update hf]
      simp only [readBody, hkind, hwords, hlast, hrefresh, hregion]
      simp [byteAt, Frame.content_update hf]
    | ownReq region generation noWait =>
      obtain ⟨hflag, -⟩ := flag_of_byteAt (Frame.ownReq_flagByte hf [])
      rw [List.append_nil] at hflag
      have hkind : fieldAt f.content 0 1 = 3 := by simp [Frame.content_ownReq hf]
      simp only [readBody, hkind, hflag]
      simp [byteAt, Frame.content_ownReq hf]
    | ownGrant region generation words =>
      have hwords : bytesWords (f.content.drop 0x0C) = words.getD [] := by
        rw [Frame.content_ownGrant hf]
        exact bytesWords_wordBytes _
      have hkind : fieldAt f.content 0 1 = 4 := by simp [Frame.content_ownGrant hf]
      have hlength : f.content.length = 12 + 4 * (words.getD []).length := by
        simp [Frame.content_ownGrant hf]
        omega
      simp only [readBody, hkind, hwords, hlength]
      rw [hf] at h
      cases words with
      | none => simp [byteAt, Frame.content_ownGrant hf]
      | some words =>
        have hfull : words.length = 64 := by simpa [FrameBody.permitted] using h
        simp [byteAt, Frame.content_ownGrant hf, hfull]
    | ownDeny region reason => simp [readBody, Frame.content_ownDeny hf, byteAt]
    | syncDone => simp [readBody, Frame.content_syncDone hf, byteAt]
  | ack value => simp [readBody, Frame.content_ack hf, byteAt]
  | snapshot region sweep generation words =>
    have hwords : bytesWords (f.content.drop 0x0C) = words := by
      rw [Frame.content_snapshot hf]
      exact bytesWords_wordBytes words
    have hkind : fieldAt f.content 0 1 = 8 := by simp [Frame.content_snapshot hf]
    simp only [readBody, hkind, hwords]
    simp [byteAt, Frame.content_snapshot hf]
  | idle => simp [readBody, Frame.content_idle hf]
  | bye => simp [readBody, Frame.content_bye hf]

theorem Frame.fieldAt_kind (f : Frame) (l : List Byte) : fieldAt (f.content ++ l) 0 1 = f.body.kindCode := by
  have hsmall : f.body.kindCode < 256 := by unfold FrameBody.kindCode; split <;> decide
  simp [Frame.content, Nat.mod_eq_of_lt hsmall]

theorem Frame.fieldAt_epoch (f : Frame) (l : List Byte) : fieldAt (f.content ++ l) 1 2 = f.epoch.toNat := by
  simp [Frame.content]

theorem Frame.kindHolds_bytes (f : Frame) : kindHolds f.bytes = true := by
  have hrange : 1 ≤ f.body.kindCode ∧ f.body.kindCode ≤ 10 := by unfold FrameBody.kindCode; split <;> decide
  simpa [kindHolds, Frame.bytes, Frame.fieldAt_kind] using hrange

/-- The length of every frame of a permitted shape is the one of its kind (R103). -/
theorem Frame.lengthHolds_bytes (f : Frame) (h : f.body.permitted = true) : lengthHolds f.bytes = true := by
  have hkind : fieldAt f.bytes 0 1 = f.body.kindCode := f.fieldAt_kind _
  rw [lengthHolds, hkind, f.length_bytes]
  cases hf : f.body with
  | hello h =>
    simp [FrameBody.kindCode, Frame.content_hello hf]
  | sequenced seq acked content =>
    rw [hf] at h
    cases content with
    | update region offset words last refresh lastOfRegion =>
      have hcount : 1 ≤ words.length ∧ words.length ≤ 16 := by simpa [FrameBody.permitted] using h
      have hfield : fieldAt f.bytes 7 1 = words.length := by
        simp [Frame.bytes, Frame.content_update hf]
        omega
      simp [FrameBody.kindCode, hfield, hcount, Frame.content_update hf]
      omega
    | ownReq region generation noWait => simp [FrameBody.kindCode, Frame.content_ownReq hf]
    | ownGrant region generation words =>
      cases words with
      | none => simp [FrameBody.kindCode, Frame.content_ownGrant hf, wordBytes]
      | some words =>
        have hfull : words.length = 64 := by simpa [FrameBody.permitted] using h
        simp [FrameBody.kindCode, Frame.content_ownGrant hf, hfull]
    | ownDeny region reason => simp [FrameBody.kindCode, Frame.content_ownDeny hf]
    | syncDone => simp [FrameBody.kindCode, Frame.content_syncDone hf]
  | ack value => simp [FrameBody.kindCode, Frame.content_ack hf]
  | snapshot region sweep generation words =>
    have hfull : words.length = 64 := by simpa [hf, FrameBody.permitted] using h
    simp [FrameBody.kindCode, Frame.content_snapshot hf, hfull]
  | idle => simp [FrameBody.kindCode, Frame.content_idle hf]
  | bye => simp [FrameBody.kindCode, Frame.content_bye hf]

/-- The lengths of R103 are from 8 bytes to 296. -/
theorem length_of_lengthHolds {bytes : List Byte} (h : lengthHolds bytes = true) :
    8 ≤ bytes.length ∧ bytes.length ≤ 296 := by
  unfold lengthHolds at h
  split at h <;> simp at h <;> omega

/-- Every frame of a permitted shape passes the checks and is read back whole. -/
theorem Frame.checkFrame_bytes (f : Frame) (h : f.body.permitted = true) : checkFrame f.bytes = some f := by
  have hlength := f.lengthHolds_bytes h
  have hintegrity : integrityHolds f.bytes = true :=
    (integrityHolds_iff _).2 ⟨(length_of_lengthHolds hlength).1, f.crcFits_bytes⟩
  have hepoch : fieldAt f.content 1 2 = f.epoch.toNat := by simpa using f.fieldAt_epoch []
  simp only [checkFrame, hintegrity, f.kindHolds_bytes, hlength, f.take_bytes, f.readBody_content h, hepoch]
  simp

/-! ## Where 11.7 puts each field -/

/-- The last four bytes hold the CRC-32 of the rest (R104). -/
theorem Frame.fieldAt_crc (f : Frame) :
    fieldAt f.bytes (f.bytes.length - 4) 4 = (crc32 (f.bytes.take (f.bytes.length - 4))).toNat := by
  rw [f.take_bytes, f.length_bytes, Nat.add_sub_cancel, Frame.bytes, fieldAt_append_right le_rfl, Nat.sub_self]
  simpa using fieldAt_word (crc32 f.content) []

/-- A class is its digit's two bits in the byte that holds it. -/
theorem Frame.hello_classBits {f : Frame} {h : HelloBody} (hf : f.body = .hello h) (l : List Byte) (r : Fin 64) :
    flagAt (f.content ++ l) (0x0C + r.val / 4) (2 * (r.val % 4)) = h.content.classMap[r].getLsbD 0 ∧
    flagAt (f.content ++ l) (0x0C + r.val / 4) (2 * (r.val % 4) + 1) = h.content.classMap[r].getLsbD 1 := by
  have hbit (k : Nat) (hk : k < 2) : flagAt (f.content ++ l) (0x0C + r.val / 4) (2 * (r.val % 4) + k) =
      h.content.classMap[r].getLsbD k := by
    have hplace : 4 ^ (r.val % 4) = 2 ^ (2 * (r.val % 4)) := (pow_mul 2 2 _).symm
    rw [BitVec.getLsbD, ← Frame.hello_classDigit hf l r, hplace, show 4 = 2 ^ 2 from rfl, Nat.testBit_mod_two_pow,
      Nat.testBit_div_two_pow, Nat.add_comm k]
    simp [flagAt, hk]
  exact ⟨hbit 0 (by decide), hbit 1 (by decide)⟩

theorem zeroBetween_iff {b : List Byte} {first last : Nat} (h : first ≤ last) :
    zeroBetween b first last ↔ fieldAt b first (last - first + 1) = 0 := by
  have hzero := zeroBytes_iff b first (last - first)
  rw [Nat.add_sub_cancel' h] at hzero
  simpa [zeroBytes] using hzero.symm

/-- Settles O33: the framer's reading by `Frame.checkFrame_bytes`, and the fields of each kind in the bytes that the
lemma about its content gives it. -/
theorem frameBytesReadBack : Obligations.FrameBytesReadBack := by
  unfold Obligations.FrameBytesReadBack
  refine ⟨fun f h => ⟨f.checkFrame_bytes h, (length_of_lengthHolds (f.lengthHolds_bytes h)).2⟩, fun f h => ?_⟩
  intro b words
  have hb : b = f.content ++ leBytes 4 (crc32 f.content).toNat := rfl
  have hlen : b.length = f.content.length + 4 := f.length_bytes
  refine ⟨hb ▸ f.fieldAt_epoch _, f.fieldAt_crc, ?_⟩
  cases hf : f.body with
  | hello h =>
    obtain ⟨hheard, hjoined, hfresh, hclear⟩ := flags_of_byteAt (hb ▸ Frame.hello_flagByte hf _)
    refine ⟨?_, ?_, ?_, ?_, hheard, hjoined, hfresh, hclear, ?_, ?_, fun r => ?_⟩
    · simp [hlen, Frame.content_hello hf]
    · simp [hb, byteAt, Frame.content_hello hf]
    · simp [hb, Frame.content_hello hf]
    · rw [hb, Frame.hello_heard hf]
      cases h.heard <;> rfl
    · simp [hb, Frame.content_hello hf]
    · simp [hb, zeroBetween_iff, Frame.content_hello hf]
    · rw [hb]
      obtain ⟨hlow, hhigh⟩ := Frame.hello_classBits hf _ r
      exact ⟨hlow, hhigh, Frame.hello_claimFlag hf _ r, Frame.hello_generation hf _ r⟩
  | sequenced seq acked content =>
    cases content with
    | update region offset l last refresh lastOfRegion =>
      have hcount : 1 ≤ l.length ∧ l.length ≤ 16 := by simpa [hf, FrameBody.permitted] using h
      have hmod : l.length % 256 = l.length := by omega
      have hlength : b.length = 16 + 4 * l.length := by
        simp [hlen, Frame.content_update hf]
        omega
      have hwords : words l := fun k w hk => by
        simp [hb, Nat.add_comm 12, Frame.content_update hf, fieldAt_wordBytes hk]
      obtain ⟨hlast, hrefresh, hregion, hclear⟩ := flags_of_byteAt (hb ▸ Frame.update_flagByte hf _)
      refine ⟨?_, ?_, hlength, ?_, ?_, ?_, ?_, hlast, hrefresh, hregion, hclear, ?_, hwords⟩ <;>
        simp [hb, byteAt, zeroBetween_iff, Frame.content_update hf, hmod]
    | ownReq region generation noWait =>
      obtain ⟨hflag, hclear⟩ := flag_of_byteAt (hb ▸ Frame.ownReq_flagByte hf _)
      refine ⟨?_, ?_, ?_, ?_, ?_, hflag, hclear, ?_, ?_, ?_⟩ <;>
        simp [hb, byteAt, zeroBetween_iff, Frame.content_ownReq hf]
    | ownGrant region generation l =>
      have hlength : b.length = if l.isSome then 272 else 16 := by
        cases l with
        | none => simp [hlen, Frame.content_ownGrant hf, wordBytes]
        | some l =>
          have hfull : l.length = 64 := by simpa [hf, FrameBody.permitted] using h
          simp [hlen, Frame.content_ownGrant hf, hfull]
      have hwords : words (l.getD []) := fun k w hk => by
        simp [hb, Nat.add_comm 12, Frame.content_ownGrant hf, fieldAt_wordBytes hk]
      refine ⟨?_, ?_, hlength, ?_, ?_, ?_, ?_, hwords⟩ <;>
        simp [hb, byteAt, zeroBetween_iff, Frame.content_ownGrant hf]
    | ownDeny region reason => simp [hb, byteAt, zeroBetween_iff, Frame.content_ownDeny hf]
    | syncDone => simp [hb, byteAt, zeroBetween_iff, Frame.content_syncDone hf]
  | ack value => simp [hb, byteAt, Frame.content_ack hf]
  | snapshot region sweep generation l =>
    have hfull : l.length = 64 := by simpa [hf, FrameBody.permitted] using h
    have hwords : words l := fun k w hk => by
      simp [hb, Nat.add_comm 12, Frame.content_snapshot hf, fieldAt_wordBytes hk]
    refine ⟨?_, ?_, ?_, ?_, ?_, ?_, hwords⟩ <;>
      simp [hb, byteAt, zeroBetween_iff, Frame.content_snapshot hf, hfull]
  | idle => simp [hb, byteAt, Frame.content_idle hf]
  | bye => simp [hb, byteAt, Frame.content_bye hf]

end Sys2Proof.Machine
end

section
/-! NOP, QUERY_REGION, FENCE and STATS at the head of the Execution Queue, and the region summary field by field (07,
11.5). -/

namespace Sys2Proof.Machine

/-! ## NOP, QUERY_REGION and FENCE (R131, R134, R135) -/

section
variable {s : State} {i : Fin 32} {rest : List (Fin 32)} {e : OctEntry}

theorem State.HeadReady.exec_nop (h : s.HeadReady i rest e) (hc : e.command = .nop) :
    exec .nop s = .next (s.headDone i rest e .ok .zero) := by
  rw [exec_eq_effect h.1.1]
  simp only [State.effect, State.nopAtHead, State.atHead_ready h, hc, h.finish rfl]

theorem State.HeadReady.exec_queryRegion (h : s.HeadReady i rest e) {r : Fin 64} (hc : e.command = .queryRegion r) :
    exec .queryRegion s = .next (s.headDone i rest e .ok (s.summary r)) := by
  rw [exec_eq_effect h.1.1]
  simp only [State.effect, State.queryRegionAtHead, State.atHead_ready h, hc, h.finish rfl]

/-- The first line of R131 that applies decides by the session and the newest frame. -/
theorem State.HeadReady.exec_fence (h : s.HeadReady i rest e) (hc : e.command = .fence) :
    exec .fence s = .next (if s.streaming then
        s.stream.list.getLast?.elim (s.headDone i rest e .ok .zero) fun newest =>
          s.headWaits i rest { e with mark := some newest.seq }
      else s.headDone i rest e .okLocal .zero) := by
  obtain ⟨_, hqueue, _, _⟩ := id h
  rw [exec_eq_effect h.1.1]
  simp only [State.effect, State.fenceAtHead, State.atHead_ready h, hc, h.finish rfl, State.awaitEvent_eq hqueue]
  cases s.stream.list.getLast? <;> rfl
end

/-! ## The region summary (R17, 11.5) -/

theorem RegionClass.code_lt (c : RegionClass) : c.code < 3 := by cases c <;> decide

theorem OwnState.code_lt (o : OwnState) : o.code < 4 := by cases o <;> decide

/-- A region is watched where an armed slot names it (R17). -/
theorem State.watched_iff (s : State) (r : Fin 64) :
    s.watched r = true ↔ ∃ j : Fin 16, s.watch.table[j].armed = true ∧ s.watch.table[j].spec.region = r := by
  simp only [State.watched, List.any_eq_true, Bool.and_eq_true, beq_iff_eq, Vector.mem_toList_iff,
    Vector.mem_iff_getElem]
  constructor
  · rintro ⟨_, ⟨k, hk, rfl⟩, harmed⟩
    exact ⟨⟨k, hk⟩, harmed⟩
  · rintro ⟨j, harmed⟩
    exact ⟨_, ⟨j, j.2, rfl⟩, harmed⟩

/-- Two fields of 4 bits, four single bits and a field of 16 bits, at the places that 11.5 gives those of the region
summary. -/
structure SummaryFields (w : Word) (cls state : Nat) (held pending stale watched : Bool) (staging : Nat) : Prop where
  cls     : (w.extractLsb' 0 4).toNat = cls
  state   : (w.extractLsb' 4 4).toNat = state
  held    : w.getLsbD 8 = held
  pending : w.getLsbD 9 = pending
  stale   : w.getLsbD 10 = stale
  watched : w.getLsbD 11 = watched
  rest    : ∀ k ∈ [12, 13, 14, 15], w.getLsbD k = false
  staging : (w.extractLsb' 16 16).toNat = staging

/-- A flag read as a number is set where the number is odd. -/
theorem decide_odd_bit {n : Nat} {b : Bool} (h : n % 2 = bit b) : decide (n % 2 = 1) = b := by
  rw [h, decide_bit]

theorem summaryFields_ofNat {cls state staging : Nat} (hc : cls < 16) (hs : state < 16) (hn : staging < 65536)
    (held pending stale watched : Bool) :
    SummaryFields (BitVec.ofNat 32 (cls + 16 * state + 256 * bit held + 512 * bit pending + 1024 * bit stale
      + 2048 * bit watched + 65536 * staging)) cls state held pending stale watched staging := by
  have hheld := bit_lt held
  have hpending := bit_lt pending
  have hstale := bit_lt stale
  have hwatched := bit_lt watched
  have hw : cls + 16 * state + 256 * bit held + 512 * bit pending + 1024 * bit stale + 2048 * bit watched
      + 65536 * staging < 2 ^ 32 := by omega
  constructor
  case rest =>
    intro k hk
    rw [getLsbD_ofNat _ hw]
    simp only [List.mem_cons, List.not_mem_nil, or_false] at hk
    rcases hk with rfl | rfl | rfl | rfl
    all_goals exact decide_eq_false (by omega)
  case cls | state | staging =>
    rw [toNat_extractLsb'_ofNat _ _ _ hw]
    omega
  all_goals
    rw [getLsbD_ofNat _ hw]
    exact decide_odd_bit (by omega)

theorem State.summaryFlags_fields (s : State) (r : Fin 64) :
    SummaryFields (s.summaryFlags r) (s.region r).cls.code (s.region r).state.code (s.region r).held
      (s.region r).pending.isSome (s.region r).stale (s.watched r) ((s.region r).stagingCount % 64) := by
  have hcls := (s.region r).cls.code_lt
  have hstate := (s.region r).state.code_lt
  exact summaryFields_ofNat (by omega) (by omega) (by omega) _ _ _ _

/-- Settles O15: the three head rules, FENCE by the session and the newest frame, and the summary field by field. -/
theorem nopQueryAndFence : Obligations.NopQueryAndFence := by
  unfold Obligations.NopQueryAndFence
  refine ⟨fun s i rest e h hc => h.exec_nop hc, fun s i rest e r h hc => h.exec_queryRegion hc, fun s r w0 => ?_,
    fun s i rest e h hc hlink => ?_, fun s i rest e h hc hlink hempty => ?_,
    fun s i rest e older newest h hc hlink hlist => ?_⟩
  · have hf := s.summaryFlags_fields r
    refine ⟨rfl, rfl, hf.cls.trans ?_, hf.state.trans ?_, hf.held, hf.pending, hf.stale, ?_, hf.rest,
      fun hcount => ?_⟩
    · cases (s.region r).cls <;> rfl
    · cases (s.region r).state <;> rfl
    · rw [← State.watched_iff, ← hf.watched]; rfl
    · exact hf.staging.trans (Nat.mod_eq_of_lt (by omega))
  · have hsilent : s.streaming = false := by rcases hlink with h | h | h | h <;> simp [State.streaming, h]
    rw [h.exec_fence hc, hsilent]
    rfl
  · rw [h.exec_fence hc, if_pos (s.streaming_iff.2 hlink), hempty]
    rfl
  · rw [h.exec_fence hc, if_pos (s.streaming_iff.2 hlink), hlist, List.getLast?_concat]
    rfl

/-! ## STATS (R133) -/

/-- The counters by their words (R133). -/
theorem State.counters_eq (s : State) : s.dev.counters.toList = [s.counter .framesSent, s.counter .framesReceived,
    s.counter .framesBad, s.counter .retransmitRounds, s.counter .duplicates, s.counter .outOfOrder,
    s.counter .epochMismatch, s.counter .snapshotsStale, s.counter .protocolErrors, s.counter .sweepOverruns,
    s.counter .notifyLost, s.counter .linkLosses] := by
  refine List.ext_getElem (by simp) fun k hk _ => ?_
  rw [Vector.length_toList] at hk
  interval_cases k <;> rfl

/-- An entry in use is aborted once its command has given up what it holds (R154). -/
theorem State.abortEntry_eq {s u : State} {i : Fin 32} {e : OctEntry} (he : s.cmd.oct[i] = some e)
    (hgives : s.giveUp e = u) (hoct : u.cmd.oct = s.cmd.oct) (hqueue : u.cmd.queue = s.cmd.queue) :
    s.abortEntry i = u.aborted i e := by
  have hentry : s.entry i = some e := he
  simp only [State.abortEntry, hentry, hgives, ← hqueue]
  exact State.requestCompletion_eq (by rw [← he, ← hoct]) ..

/-- A DMA write that ends in error leaves host memory and the log as they were (log entry 4). -/
theorem State.hostWritten_or (s : State) (ok : Bool) (addr : Addr) (data : List Byte) :
    (if ok then s.hostWritten addr data else s) = { s with
      hostMem := if ok then s.hostMem.store addr data else s.hostMem
      emitted := if ok then .hostWrite addr data :: s.emitted else s.emitted } := by
  cases ok <;> rfl

theorem statsInfo_eq (ok clear : Bool) : statsInfo (if ok then 12 else 0) clear =
    { w0 := if ok then 12 else 0, w1 := if clear then 1 else 0, w2 := 0 } := by
  cases ok <;> cases clear <;> rfl

/-- The end of the output transfer of a STATS that waits at the head; `t` is the state with the copy in host memory,
where the transfer ended without error (R133, R154). -/
theorem State.statsOutputEnds_eq {s t : State} {i : Fin 32} {rest : List (Fin 32)} {e : OctEntry} {addr : Addr}
    {clear : Bool} {copy : Vector Word 12} {ok : Bool} (hcopy : s.cmd.statsCopy = some copy)
    (hq : s.cmd.queue = i :: rest) (he : s.cmd.oct[i] = some e) (hc : e.command = .stats addr clear)
    (hphase : e.phase = .executingWait) (ht : (if ok then s.hostWritten addr (statsBytes copy) else s) = t) :
    (s.dev.state = .running → s.statsOutputEnds ok =
      { t with cmd.statsCopy := none }.headDone i rest e (if ok then .ok else .hostAccess)
        (statsInfo (if ok then 12 else 0) clear)) ∧
    (s.dev.state = .stopping → s.statsOutputEnds ok = { t with cmd.statsCopy := none }.aborted i e) := by
  have hentry : s.entry i = some e := he
  have hcmd : t.cmd = s.cmd := by rw [← ht]; cases ok <;> rfl
  have het : t.cmd.oct[i] = some e := by rw [hcmd]; exact he
  have hqt : t.cmd.queue = i :: rest := by rw [hcmd, hq]
  simp only [State.statsOutputEnds, hcopy, hq, hentry, hc, hphase, if_true, ht]
  refine ⟨fun hrun => ?_, fun hstop => ?_⟩
  · simp only [hrun]
    exact State.finishHead_eq (s := { t with cmd.statsCopy := none }) het hqt _ _
  · simp only [hstop]
    refine State.abortEntry_eq het ?_ rfl rfl
    simp only [State.giveUp, hc, hphase, if_true]

/-- Settles O20: the counters by their words, STATS by the head rule, and its transfer by the device state. -/
theorem statsCopiesAndDelivers : Obligations.StatsCopiesAndDelivers := by
  unfold Obligations.StatsCopiesAndDelivers
  refine ⟨State.counters_eq, fun s i rest e addr clear h hc => ?_, ?_⟩
  · rw [exec_eq_effect h.1.1]
    simp only [State.effect, State.statsAtHead, State.atHead_ready h, hc]
    rfl
  · intro s i rest e addr clear copy ok hp hcopy hq he hc hphase u
    obtain ⟨running, stopping⟩ :=
      State.statsOutputEnds_eq hcopy hq he hc hphase (s.hostWritten_or ok addr (statsBytes copy))
    rw [exec_eq_effect hp, ← statsInfo_eq]
    exact ⟨fun hrun => congrArg _ (running hrun), fun hstop => congrArg _ (stopping hstop)⟩

end Sys2Proof.Machine
end

section
/-! The end of a staging transfer: the effect of a WRITE does not depend on the phase that its entry shows, so a WRITE
that waited at the head does what a queued one does there (R122, R125, R154). -/

namespace Sys2Proof.Machine

/-! ## Operations that overwrite an entry, or leave it alone -/

theorem State.setEntry_setEntry (s : State) (i : Fin 32) (e f : OctEntry) :
    (s.setEntry i e).setEntry i f = s.setEntry i f := by
  simp [State.setEntry]

theorem State.awaitEvent_setEntry (s : State) (i : Fin 32) (e f : OctEntry) :
    (s.setEntry i e).awaitEvent i f = s.awaitEvent i f := by
  rw [State.awaitEvent, State.setEntry_setEntry, State.awaitEvent]

/-- A completion sets the phase of its entry, whatever it was. -/
theorem State.requestCompletion_setPhase {s : State} {i : Fin 32} {e : OctEntry} (he : s.cmd.oct[i] = some e)
    (p : Phase) (st : Status) (info : Info) :
    (s.setEntry i { e with phase := p }).requestCompletion i st info = s.requestCompletion i st info := by
  rw [State.requestCompletion_eq he, State.requestCompletion_eq (e := { e with phase := p }) (by simp [State.setEntry])]
  simp [State.withCompletion, State.setEntry, OctEntry.finished]

theorem State.writeTakesEffect_setEntry (s : State) (i : Fin 32) (e f : OctEntry) (p : Phase) (r : Fin 64) :
    (s.setEntry i f).writeTakesEffect { e with phase := p } r = (s.writeTakesEffect e r).setEntry i f := by
  unfold State.writeTakesEffect State.freeStaging
  cases e.staging <;> rfl

theorem State.enqueueBatch_setEntry (s : State) (i : Fin 32) (e : OctEntry) (frames : List SeqContent)
    (owner : Option (Fin 32)) :
    (s.setEntry i e).enqueueBatch frames owner = (s.enqueueBatch frames owner).setEntry i e := by
  simp only [State.enqueueBatch_eq, State.setEntry]

theorem State.apply_setEntry (s : State) (i : Fin 32) (e : OctEntry) (r : Fin 64) (offset : Nat) (words : List Word)
    (source : ApplySource) :
    (s.setEntry i e).apply r offset words source = (s.apply r offset words source).setEntry i e := rfl

/-! ## The effect of a WRITE whose entry shows another phase -/

section
variable {s : State} {i : Fin 32} {e : OctEntry} (he : s.cmd.oct[i] = some e) (p : Phase)
include he

theorem State.writeCompletes_setPhase (r : Fin 64) (st : Status) (info : Info) :
    (s.setEntry i { e with phase := p }).writeCompletes i { e with phase := p } r st info =
      s.writeCompletes i e r st info := by
  have hkept : (s.writeTakesEffect e r).cmd.oct[i] = some e := by
    simp only [State.writeTakesEffect_eq, State.unstaged_head, he]
  rw [State.writeCompletes, State.writeTakesEffect_setEntry, State.finishHead, State.requestCompletion_setPhase hkept]
  rfl

/-- In a session a presented batch completes, awaits its acknowledgement or waits for room; each sets the phase. -/
theorem State.presentWrite_setPhase (hstream : s.streaming = true) (r : Fin 64) (offset : Nat) (words : List Word)
    (waitRemote : Bool) :
    (s.setEntry i { e with phase := p }).presentWrite i { e with phase := p } r offset words waitRemote =
      s.presentWrite i e r offset words waitRemote := by
  have hstream' : (s.setEntry i { e with phase := p }).streaming = true := hstream
  have hfits : (s.setEntry i { e with phase := p }).batchFits = s.batchFits := rfl
  have hinfo : (s.setEntry i { e with phase := p }).writeInfo = s.writeInfo := rfl
  have hafter (frames : List SeqContent) :
      ((s.enqueueBatch frames none).apply r offset words .localHost).cmd.oct[i] = some e := by simpa using he
  simp only [State.presentWrite, hstream, hstream', hfits, hinfo, Bool.true_eq_false, if_false,
    State.enqueueBatch_setEntry, State.apply_setEntry, State.writeTakesEffect_setEntry, State.awaitEvent_setEntry,
    State.setEntry_setEntry, State.writeCompletes_setPhase (hafter _)]
  rfl

/-- Every line of R125 but the wait for the transfer. -/
theorem State.writeEffect_setPhase (r : Fin 64) (offset : Nat) (source : WriteSource) (waitRemote : Bool) :
    (s.setEntry i { e with phase := p }).writeEffect i { e with phase := p } r offset source waitRemote =
      s.writeEffect i e r offset source waitRemote := by
  have hwords : (s.setEntry i { e with phase := p }).writeWords { e with phase := p } = s.writeWords e := rfl
  have hfailed : (s.setEntry i { e with phase := p }).stagingFailed { e with phase := p } = s.stagingFailed e := rfl
  have hinfo : (s.setEntry i { e with phase := p }).writeInfo = s.writeInfo := rfl
  have hregion : (s.setEntry i { e with phase := p }).region = s.region := rfl
  have hstreaming : (s.setEntry i { e with phase := p }).streaming = s.streaming := rfl
  have happlied (o : Nat) (ws : List Word) : (s.apply r o ws .localHost).cmd.oct[i] = some e := he
  simp only [State.writeEffect, hwords, hfailed, hinfo, hregion, hstreaming, State.apply_setEntry,
    State.writeCompletes_setPhase he, State.writeCompletes_setPhase (happlied _ _)]
  cases hstream : s.streaming
  · rfl
  · rw [State.presentWrite_setPhase he p hstream]
end

/-! ## The end of the transfer (R122, R154) -/

/-- A slot whose transfer has ended shows that its words arrived, or the error (R122). -/
theorem StagingSlot.ended_done (slot : StagingSlot) (result : Option (List Byte)) :
    (slot.ended result).arrived = true ∨ (slot.ended result).error = true := by
  cases result
  · exact .inr rfl
  · exact .inl rfl

/-- In RUNNING and STOPPING the end of a transfer in progress, which brings the bytes asked for or an error. -/
theorem State.stagingEnds_eq {s : State} {j : Fin 8} {slot : StagingSlot} {e : OctEntry}
    {result : Option (List FoundByte)} (hslot : s.cmd.staging[j] = some slot) (harrived : slot.arrived = false)
    (herror : slot.error = false) (he : s.cmd.oct[slot.entry] = some e)
    (hlength : ∀ found, result = some found → found.length = 4 * e.command.writeCount) :
    (s.dev.state = .running → s.stagingEnds j result = { s with
      cmd.staging := s.cmd.staging.set j
        (some (slot.ended (result.map (s.hostMem.load e.command.bufferAddr)))) }.writeResumes slot.entry) ∧
    (s.dev.state = .stopping → s.stagingEnds j result = s.abortEntry slot.entry) := by
  have hentry : s.entry slot.entry = some e := he
  have hwhole : ¬ (slot.arrived = true ∨ slot.error = true ∨
      result.any (fun b => b.length ≠ 4 * e.command.writeCount) = true) := by
    cases result with
    | none => simp [harrived, herror]
    | some found => simp [harrived, herror, hlength found rfl]
  simp only [State.stagingEnds, hslot, hentry, if_neg hwhole]
  exact ⟨fun hrun => by simp only [hrun], fun hstop => by simp only [hstop]⟩

/-- A WRITE at the head whose transfer has ended examines its region (R125). -/
theorem State.HeadReady.exec_write {s : State} {i : Fin 32} {rest : List (Fin 32)} {e : OctEntry}
    (h : s.HeadReady i rest e) {r : Fin 64} {offset count : Nat} {source : WriteSource} {waitRemote : Bool}
    (hc : e.command = .write r offset count source waitRemote) (hbusy : s.stagingBusy e = false) :
    exec .write s = .next (s.writeEffect i e r offset source waitRemote) := by
  rw [exec_eq_effect h.1.1]
  simp only [State.effect, State.writeAtHead, State.atHead_ready h, hc, hbusy, Bool.false_eq_true, if_false]

/-- A WRITE that waited at the head resumes as a queued one that reaches the head takes its effect (R122, R125). -/
theorem State.Runs.exec_write_queued {s : State} (h : s.Runs) {i : Fin 32} {e : OctEntry} {r : Fin 64}
    {offset count : Nat} {source : WriteSource} {waitRemote : Bool} (hhead : s.cmd.queue.head? = some i)
    (he : s.cmd.oct[i] = some e) (hc : e.command = .write r offset count source waitRemote)
    (hphase : e.phase = .executingWait) (hbusy : s.stagingBusy e = false) :
    exec .write (s.setEntry i { e with phase := .queued }) = .next (s.writeResumes i) := by
  obtain ⟨rest, hqueue⟩ := List.head?_eq_some_iff.1 hhead
  have hentry : s.entry i = some e := he
  have hready : (s.setEntry i { e with phase := .queued }).HeadReady i rest { e with phase := .queued } :=
    ⟨h, hqueue, by simp [State.setEntry], rfl⟩
  rw [hready.exec_write hc hbusy, State.writeEffect_setPhase he]
  simp only [State.writeResumes, hhead, hentry, hc, hphase, if_true]

theorem State.giveUp_eq_unstaged {s : State} {e : OctEntry} {r : Fin 64} {offset count : Nat} {source : WriteSource}
    {waitRemote : Bool} (hc : e.command = .write r offset count source waitRemote) : s.giveUp e = s.unstaged r e := by
  simp only [State.giveUp, hc, State.writeTakesEffect_eq]

/-- Settles O29: the end of the transfer by the device state, and in RUNNING by whether its WRITE waits at the head. -/
theorem stagingTransferEnds : Obligations.StagingTransferEnds := by
  unfold Obligations.StagingTransferEnds
  intro s j slot e r offset count addr waitRemote result hp hslot harrived herror he hc hstaging hlength filled
  have hfilled : slot.ended (result.map (s.hostMem.load addr)) = filled := by cases result <;> rfl
  obtain ⟨running, stopping⟩ := State.stagingEnds_eq hslot harrived herror he
    (by simpa [hc, Command.writeCount] using hlength)
  have haddr : e.command.bufferAddr = addr := by rw [hc]; rfl
  rw [haddr, hfilled] at running
  rw [exec_eq_effect hp, State.effect]
  refine ⟨fun hrun hphase => ?_, fun hrun hphase hhead => ?_, fun hstop => ?_⟩
  · have hentry : ({ s with cmd.staging := s.cmd.staging.set j (some filled) } : State).entry slot.entry = some e := he
    rw [running hrun]
    simp [State.writeResumes, hentry, hc, hphase]
  · have hdone : filled.arrived = true ∨ filled.error = true := hfilled ▸ slot.ended_done _
    have hbusy : State.stagingBusy { s with cmd.staging := s.cmd.staging.set j (some filled) } e = false := by
      rcases hdone with h | h <;> simp [State.stagingBusy, hstaging, h]
    have hruns : State.Runs { s with cmd.staging := s.cmd.staging.set j (some filled) } := ⟨hp, hrun⟩
    rw [running hrun]
    exact (hruns.exec_write_queued hhead he hc hphase hbusy).symm
  · obtain ⟨hoct, hqueue⟩ := s.unstaged_head r e
    rw [stopping hstop, State.abortEntry_eq he (State.giveUp_eq_unstaged hc) hoct hqueue]

end Sys2Proof.Machine
end

section
/-! The end of a completion record's write, and where 11.5 puts the fields of the record (R118, R150 to R152, R187). -/

namespace Sys2Proof.Machine

/-! ## The record's bytes (11.5) -/

theorem Completion.bytes_eq (c : Completion) (phase : Bool) : c.bytes phase =
    leBytes 2 c.tag.toNat ++ BitVec.ofNat 8 c.status.code ::
      BitVec.ofNat 8 (bit phase + 2 * bit (decide (c.ring = .normal))) ::
        (leBytes 4 c.info.w0.toNat ++ (leBytes 4 c.info.w1.toNat ++ (leBytes 4 c.info.w2.toNat ++ []))) := by
  cases hr : c.ring <;> simp [Completion.bytes, hr, bit]

theorem Status.code_lt (st : Status) : st.code < 17 := by cases st <;> decide

/-- Phase and ring of origin are the two lowest bits of byte 3, and the only ones. -/
theorem Completion.flags_bytes (c : Completion) (phase : Bool) :
    flagAt (c.bytes phase) 3 0 = phase ∧ flagAt (c.bytes phase) 3 1 = decide (c.ring = .normal) ∧
      clearFrom (c.bytes phase) 3 2 := by
  have hbyte : byteAt (c.bytes phase) 3 = BitVec.ofNat 8 (bit phase + 2 * bit (decide (c.ring = .normal))) := by
    simp [byteAt, Completion.bytes_eq, -BitVec.toNat_ofNat]
  rw [clearFrom_iff, fieldAt_one]
  simp only [flagAt_eq, hbyte]
  cases phase <;> cases decide (c.ring = .normal) <;> decide

/-! ## The end of the write (R150 to R152) -/

/-- The view of a submission ring as an entry of the Outstanding Command Table becomes free (R147). -/
theorem State.freeEntry_subRing {s : State} {ring : Ring} {v : SubRing} (h : s.subRing ring = v)
    (entry : Option (Fin 32)) :
    (s.freeEntry entry).subRing ring =
      if entry.isSome = true ∧ v.waiting = some .octEntry then { v with waiting := none } else v := by
  subst h
  cases entry with
  | none => simp [State.freeEntry]
  | some i =>
    have hoffer : (s.freeEntry (some i)).subRing ring = (s.subRing ring).offer .octEntry :=
      State.subRing_offerResource _ _ ring
    simp [hoffer, SubRing.offer]

theorem State.completionMsi_subRing (s : State) (ring : Ring) : s.completionMsi.subRing ring = s.subRing ring := by
  unfold State.completionMsi
  split
  · rfl
  · cases ring <;> rfl

/-- What the end of a write changes, but for the waiting marks of the submission rings. -/
theorem State.completionPosted_eq (s : State) (c : Completion) (rest : List Completion) :
    s.completionPosted c rest = { s with
      rings := { s.rings with
        posting := rest
        post := nextSlot s.rings.post s.params.completionSize
        phase := if nextSlot s.rings.post s.params.completionSize = 0 then !s.rings.phase else s.rings.phase
        reserved := s.rings.reserved - 1
        irq := true
        urgent := (s.completionPosted c rest).rings.urgent
        normal := (s.completionPosted c rest).rings.normal }
      cmd.oct := c.entry.elim s.cmd.oct fun i => s.cmd.oct.set i none
      hostMem := s.hostMem.store (slotAddr s.params.completionBase s.rings.post 16) (c.bytes s.rings.phase)
      emitted := (if s.rings.irq then [] else [.msi 0]) ++
        .hostWrite (slotAddr s.params.completionBase s.rings.post 16) (c.bytes s.rings.phase) :: s.emitted } := by
  cases hentry : c.entry <;> cases hirq : s.rings.irq <;>
    simp [State.completionPosted, State.completionMsi, State.freeEntry, State.offerResource, State.hostWritten, hentry,
      hirq]

/-- Settles O14: the end without error block by block, the fault, and the bytes of the record. -/
theorem completionWriteEnds : Obligations.CompletionWriteEnds := by
  unfold Obligations.CompletionWriteEnds
  refine ⟨?_, fun s c rest h hposting => ?_, fun c phase => ?_⟩
  · intro s c rest h hposting slot
    have hslot : slotAddr s.params.completionBase s.rings.post 16 = slot := by rw [slotAddr, Nat.mul_comm]
    refine ⟨s.completionPosted c rest, ?_, ?_, fun ring => ?_⟩
    · rw [exec_eq_effect h.1]
      simp only [State.effect, State.completionWriteEnds, hposting, h.2, if_true]
    · refine (s.completionPosted_eq c rest).trans ?_
      rw [hslot]
      cases c.entry <;> rfl
    · rw [State.completionPosted, State.completionMsi_subRing]
      refine State.freeEntry_subRing ?_ c.entry
      cases ring <;> simp only [State.subRing, State.hostWritten]
  · refine ⟨_, exec_eq_effect h.1 _, ?_⟩
    simp only [State.effect, State.completionWriteEnds, hposting, h.2, if_true, Bool.false_eq_true, if_false]
    exact State.enterFaulted_spec h.2 .recordWrite
  · obtain ⟨hphase, hring, hclear⟩ := c.flags_bytes phase
    have hbyte : c.status.code % 256 = c.status.code := Nat.mod_eq_of_lt (c.status.code_lt.trans (by decide))
    have hstatus : fieldAt (c.bytes phase) 2 1 = c.status.code := by simp [Completion.bytes_eq, hbyte]
    refine ⟨by simp [Completion.bytes_eq], by simp [Completion.bytes_eq], hstatus.trans ?_, hphase,
      by rw [hring, decide_eq_true_iff], hclear, ?_⟩
    · cases c.status <;> rfl
    · simp [Completion.bytes_eq, -List.append_nil]

end Sys2Proof.Machine
end

section
/-! POST writes and record fetches: the checks of each index, what a valid one leaves behind, and what the end of a fetch
takes from host memory (R141 to R147, R154, R168, R169, R189). -/

namespace Sys2Proof.Machine

/-! ## Ring arithmetic (R138, R139) -/

/-- The distance from a slot of the ring, without the reduction that its number does not need. -/
theorem ringDistance_of_lt {a b size : Nat} (hb : b < size) : ringDistance a b size = (a + size - b) % size := by
  rw [ringDistance, Nat.mod_eq_of_lt hb, Nat.add_sub_assoc hb.le]

/-- Two slots of a ring are apart exactly where they differ. -/
theorem ringDistance_pos_iff {a b size : Nat} (ha : a < size) (hb : b < size) :
    0 < ringDistance a b size ↔ a ≠ b := by
  rw [ringDistance_of_lt hb]
  rcases Nat.lt_or_ge a b with h | h
  · rw [Nat.mod_eq_of_lt (by omega)]
    omega
  · rw [show a + size - b = a - b + size by omega, Nat.add_mod_right, Nat.mod_eq_of_lt (by omega)]
    omega

/-! ## POST writes in RUNNING (R141) -/

section
variable {s : State} (h : s.Runs)
include h

theorem State.Runs.exec_producerIndexPost (ring : Ring) (index : BitVec 16) :
    exec (.producerIndexPost ring index) s = .next (s.postProducer ring index.toNat) := by
  rw [exec_eq_effect h.1]
  cases ring <;> exact congrArg _ (if_pos h.2)

theorem State.Runs.exec_completionConsumerPost (index : BitVec 16) :
    exec (.completionConsumerPost index) s = .next (s.postConsumer index.toNat) := by
  rw [exec_eq_effect h.1]
  exact congrArg _ (if_pos h.2)

theorem State.Runs.exec_notificationConsumerPost (index : BitVec 16) :
    exec (.notificationConsumerPost index) s = .next (s.postNotify index.toNat) := by
  rw [exec_eq_effect h.1]
  exact congrArg _ (if_pos h.2)

/-- A selector of 4 to 7 names no ring: it falls to the last line of the selector's table. -/
theorem State.Runs.exec_badPostSelector {selector : BitVec 3} (hbad : 4 ≤ selector.toNat) (index : BitVec 16) :
    exec (.badPostSelector selector index) s = .next (s.enterFaulted .badPost) := by
  rw [exec_eq_effect h.1, State.effect, State.postWrite, if_pos h.2] <;> omega

end

/-! ## The checks of an index (R142, R143) -/

theorem State.producerValid_iff (s : State) (ring : Ring) (index : Nat) : s.producerValid ring index = true ↔
    index < s.ringSize ring ∧ s.pendingCount ring ≤ ringDistance index (s.subRing ring).fetch (s.ringSize ring) := by
  simp [State.producerValid]

theorem State.consumerValid_iff (s : State) (index : Nat) : s.consumerValid index = true ↔
    index < s.params.completionSize ∧
      ringDistance index s.rings.consumer s.params.completionSize ≤ s.unconsumed := by
  simp [State.consumerValid]

/-! ## The producer index (R142, R145) -/

/-- Where a fetch begins on a ring whose view has just been replaced (R145). -/
theorem State.beginFetch_setSubRing {s : State} (h : s.dev.state = .running) (ring : Ring) (v : SubRing) :
    (s.setSubRing ring v).beginFetch ring =
      if 0 < ringDistance v.producer v.fetch (s.ringSize ring) ∧ v.copy = none ∧ v.fetching = false then
        { s.setSubRing ring { v with fetching := true } with
          emitted := .hostRead (slotAddr (s.ringBase ring) v.fetch 32) 32 :: s.emitted }
      else s.setSubRing ring v := by
  have hrun : (s.setSubRing ring v).dev.state = .running := by simpa using h
  simp only [State.beginFetch, hrun, true_and]
  cases ring <;> rfl

/-- A valid producer index is taken, and the fetch begins where the index leaves the head record pending. -/
theorem State.postProducer_valid {s : State} (hrun : s.dev.state = .running) {ring : Ring} {index : Nat}
    (hfetch : (s.subRing ring).fetch < s.ringSize ring) (hvalid : s.producerValid ring index = true) :
    s.postProducer ring index =
      if (s.subRing ring).copy = none ∧ (s.subRing ring).fetching = false ∧ index ≠ (s.subRing ring).fetch then
        { s.setSubRing ring { s.subRing ring with producer := index, fetching := true } with
          emitted := .hostRead (slotAddr (s.ringBase ring) (s.subRing ring).fetch 32) 32 :: s.emitted }
      else s.setSubRing ring { s.subRing ring with producer := index } := by
  have hindex : index < s.ringSize ring := ((s.producerValid_iff ring index).1 hvalid).1
  rw [State.postProducer, if_pos hvalid, State.beginFetch_setSubRing hrun]
  simp only [ringDistance_pos_iff hindex hfetch]
  refine if_congr ?_ rfl rfl
  tauto

/-! ## The completion consumer index (R143, R147, R152) -/

/-- A valid consumer index is taken and clears the interrupt-outstanding flag; the waiting marks aside, nothing else
changes. -/
theorem State.postConsumer_valid {s : State} {index : Nat} (hvalid : s.consumerValid index = true) :
    s.postConsumer index = { s with rings := { s.rings with
      consumer := index, irq := false, urgent := (s.postConsumer index).rings.urgent,
      normal := (s.postConsumer index).rings.normal } } := by
  simp only [State.postConsumer, if_pos hvalid]
  split <;> rfl

/-- A consumer index that consumes a record frees the rings that wait for completion space. -/
theorem State.postConsumer_subRing {s : State} {index : Nat} (hvalid : s.consumerValid index = true) (ring : Ring) :
    (s.postConsumer index).subRing ring =
      if ringDistance index s.rings.consumer s.params.completionSize ≠ 0
          ∧ (s.subRing ring).waiting = some .completionSpace then { s.subRing ring with waiting := none }
      else s.subRing ring := by
  rw [State.postConsumer, if_pos hvalid]
  by_cases hd : ringDistance index s.rings.consumer s.params.completionSize = 0
  · simp only [hd, if_true, ne_eq, not_true_eq_false, false_and, if_false]
    cases ring <;> rfl
  · simp only [hd, if_false, ne_eq, not_false_eq_true, true_and, State.subRing_offerResource]
    cases ring <;> rfl

/-! ## The POST writes by their checks (R142 to R144, R168, R169) -/

/-- Settles O8: an index that passes its checks, ring by ring. -/
theorem postsTakeIndex : Obligations.PostsTakeIndex := by
  unfold Obligations.PostsTakeIndex
  refine ⟨fun s ring index h hindex _ hfetch hahead => ?_, fun s index h hindex hahead => ?_,
    fun s index h hindex => ?_⟩
  · have hvalid : s.producerValid ring index.toNat = true :=
      (s.producerValid_iff ring _).2 ⟨hindex, by rwa [ringDistance_of_lt hfetch]⟩
    rw [h.exec_producerIndexPost, State.postProducer_valid h.2 hfetch hvalid, slotAddr, Nat.mul_comm]
  · have hvalid : s.consumerValid index.toNat = true := (s.consumerValid_iff _).2 ⟨hindex, hahead⟩
    exact ⟨_, h.exec_completionConsumerPost index, State.postConsumer_valid hvalid, State.postConsumer_subRing hvalid⟩
  · rw [h.exec_notificationConsumerPost, State.postNotify, if_pos hindex]
    simp only [State.takeNotifyConsumer, State.thaw, State.produceRecord]

/-- Settles O9: the complement of each ring's checks, and the guard of the device state. -/
theorem badPostEntersFaulted : Obligations.BadPostEntersFaulted := by
  unfold Obligations.BadPostEntersFaulted
  refine ⟨fun s selector index h hbad => ?_, fun s ring index h hfails => ?_, fun s index h hfails => ?_,
    fun s index h hfails => ?_, fun s ring selector index hp hstate => ?_⟩
  · have hselector : 4 ≤ selector.toNat := of_decide_eq_true hbad
    exact ⟨_, h.exec_badPostSelector hselector index, State.enterFaulted_spec h.working _⟩
  · have hinvalid : ¬ s.producerValid ring index.toNat = true := by rw [State.producerValid_iff]; omega
    refine ⟨_, h.exec_producerIndexPost ring index, ?_⟩
    rw [State.postProducer, if_neg hinvalid]
    exact State.enterFaulted_spec h.working _
  · have hinvalid : ¬ s.consumerValid index.toNat = true := by rw [State.consumerValid_iff]; omega
    refine ⟨_, h.exec_completionConsumerPost index, ?_⟩
    rw [State.postConsumer, if_neg hinvalid]
    exact State.enterFaulted_spec h.working _
  · refine ⟨_, h.exec_notificationConsumerPost index, ?_⟩
    rw [State.postNotify, if_neg (by omega)]
    exact State.enterFaulted_spec h.working _
  · simp only [exec_eq_effect hp, State.effect, State.postWrite_of_not_running hstate, and_self]

/-! ## The end of a record fetch (R145, R154) -/

/-- Entry to FAULTED ends the fetches in progress, so one that has just ended makes no difference. -/
theorem State.enterFaulted_fetchEnded {s : State} (h : s.working = true) (ring : Ring) (code : FaultCode) :
    (s.setSubRing ring { s.subRing ring with fetching := false }).enterFaulted code = s.enterFaulted code := by
  have hset : (s.setSubRing ring { s.subRing ring with fetching := false }).working = true := by
    cases ring <;> exact h
  rw [State.enterFaulted, if_pos hset, State.enterFaulted, if_pos h]
  cases ring <;> rfl

/-- Entry to FAULTED keeps the copy that a ring holds. -/
theorem State.enterFaulted_copy {s : State} (h : s.working = true) (ring : Ring) (code : FaultCode) :
    ((s.enterFaulted code).subRing ring).copy = (s.subRing ring).copy := by
  rw [State.enterFaulted, if_pos h]
  cases ring <;> rfl

/-- In RUNNING a fetch that ends without error puts the bytes of the head record's slot into the copy. -/
theorem State.Runs.exec_recordFetchDone {s : State} (h : s.Runs) {ring : Ring}
    (hfetching : (s.subRing ring).fetching = true) (found : Vector FoundByte 32) :
    exec (.recordFetchDone ring (some found)) s = .next (s.setSubRing ring { s.subRing ring with
      fetching := false
      copy := some
        (s.hostMem.load (s.ringBase ring + BitVec.ofNat 64 (32 * (s.subRing ring).fetch)) found.toList) }) := by
  rw [exec_eq_effect h.1, Nat.mul_comm 32]
  simp only [State.effect, State.fetchEnds, hfetching, h.2, if_true, slotAddr]

/-! ## What a DMA read takes (R189) -/

/-- A read that finds no byte of the host's takes what the write at its address left. -/
theorem HostMemory.take_load_store (m : HostMemory) (addr : Addr) {data : List Byte} {n : Nat}
    (hn : data.length ≤ n) (hspace : data.length ≤ 2 ^ 64) :
    ((m.store addr data).load addr (List.replicate n none)).take data.length = data := by
  refine List.ext_getElem? fun k => ?_
  rcases Nat.lt_or_ge k data.length with hk | hk
  · have hread := HostMemory.read_store m addr data hspace k hk
    rw [List.getElem?_take_of_lt hk, HostMemory.getElem?_load, List.getElem?_replicate, if_pos (by omega),
      Option.map_some, HostMemory.take, hread, List.getElem?_eq_getElem hk]
    rfl
  · rw [List.getElem?_eq_none hk, List.getElem?_eq_none (by simp; omega)]

/-- A completion record written over a pending submission slot is what a fetch takes from it. -/
theorem State.Runs.fetch_of_completion {s : State} (h : s.Runs) {ring : Ring} {c : Completion} {rest : List Completion}
    (hposting : s.rings.posting = c :: rest) (hfetching : (s.subRing ring).fetching = true)
    (hslot : s.ringBase ring + BitVec.ofNat 64 (32 * (s.subRing ring).fetch) =
      s.params.completionBase + BitVec.ofNat 64 (16 * s.rings.post)) :
    ∃ t u copy, exec (.completionWriteDone true) s = .next t ∧
      exec (.recordFetchDone ring (some (Vector.replicate 32 none))) t = .next u ∧
      (u.subRing ring).copy = some copy ∧ copy.take 16 = c.bytes s.rings.phase := by
  obtain ⟨writes, _, _⟩ := Sys2Proof.Machine.completionWriteEnds
  obtain ⟨t, hwritten, ht, hsub⟩ := writes s c rest ⟨h.1, h.working⟩ hposting
  have hdev : t.dev = s.dev := by rw [ht]
  have hmem : t.hostMem = s.hostMem.store (s.params.completionBase + BitVec.ofNat 64 (16 * s.rings.post))
      (c.bytes s.rings.phase) := by rw [ht]
  have hruns : t.Runs := by rw [State.Runs, hdev]; exact h
  have hbase : t.ringBase ring = s.ringBase ring := by cases ring <;> simp only [State.ringBase, State.params, hdev]
  have hview : (t.subRing ring).fetching = true ∧ (t.subRing ring).fetch = (s.subRing ring).fetch := by
    rw [hsub]
    split <;> exact ⟨hfetching, rfl⟩
  refine ⟨t, _, _, hwritten, hruns.exec_recordFetchDone hview.1 _, by rw [State.subRing_setSubRing, if_pos rfl], ?_⟩
  have hlength : (c.bytes s.rings.phase).length = 16 := by simp [Completion.bytes_eq]
  rw [hmem, hbase, hview.2, hslot, Vector.toList_replicate, ← hlength]
  exact HostMemory.take_load_store _ _ (by omega) (by omega)

/-- Settles O10: the end of a fetch by the device state, each byte of a read and of a write, and the overlap. -/
theorem recordFetchEnds : Obligations.RecordFetchEnds := by
  unfold Obligations.RecordFetchEnds
  refine ⟨fun s ring found h hfetching => h.exec_recordFetchDone hfetching found, fun s ring h hfetching => ?_,
    fun s ring result hp hstop hfetching => ?_, fun m addr found => ⟨m.length_load addr found, fun k x hx => ?_⟩,
    fun m addr data hlength => ⟨fun k hk => m.read_store addr data (by omega) k hk, fun a ha => ?_⟩,
    fun s ring c rest h hposting hfetching hslot => h.fetch_of_completion hposting hfetching hslot⟩
  · refine ⟨s.enterFaulted .ringFetch, ?_, State.enterFaulted_spec h.working _, State.enterFaulted_copy h.working _ _⟩
    rw [exec_eq_effect h.1]
    simp only [State.effect, State.fetchEnds, hfetching, h.2, if_true, State.enterFaulted_fetchEnded h.working]
  · rw [exec_eq_effect hp]
    simp only [State.effect, State.fetchEnds, hfetching, hstop, if_true]
  · rw [HostMemory.getElem?_load, hx]
    cases x <;> rfl
  · exact m.read_store_other addr data a fun k hk => (ha k hk).symm

end Sys2Proof.Machine
end

section
/-! Notification records: the overflow policies, the end of a record's write, and where 11.6 puts the fields of a record
(R151, R153, R163 to R168). -/

namespace Sys2Proof.Machine

/-! ## The overflow policies (R164, R166 to R168) -/

theorem State.notifyFull_iff (s : State) :
    s.notifyFull = true ↔ s.params.notifySize ≤ s.notifyUnconsumed + 1 := by
  simp [State.notifyFull]

/-- While no write is in progress, the head submission is taken and meets the ring. -/
theorem State.Works.exec_notificationTake {s : State} (h : s.Works) (hwriting : s.notif.writing = none) {x : Submission}
    {rest : List Submission} (hqueue : s.notif.queue = x :: rest) :
    exec .notificationTake s = .next ({ s with notif.queue := rest }.placeRecord x) := by
  rw [exec_eq_effect h.1]
  simp only [State.effect, State.takeSubmission, h.2, hwriting, hqueue, and_self, if_true]

theorem State.countLoss_eq (s : State) :
    s.countLoss = { s.counted .notifyLost with notif.lost := min (s.notif.lost + 1) 65535 } := by
  rw [State.countLoss, State.raise_eq]
  rfl

/-- A record that finds room is written, and under FREEZE one that finds the ring not frozen. -/
theorem State.placeRecord_room {s : State} (hroom : ¬ s.notifyFull = true)
    (hfrozen : s.params.policy = .freeze → s.notif.frozen = false) (x : Submission) :
    s.placeRecord x = s.produceRecord x := by
  cases hpolicy : s.params.policy <;> simp [State.placeRecord, hpolicy, hroom, hfrozen]

theorem State.placeRecord_dropNew {s : State} (hfull : s.notifyFull = true) (hpolicy : s.params.policy = .dropNew)
    (x : Submission) : s.placeRecord x = s.loseRecord := by
  simp only [State.placeRecord, hpolicy, hfull, if_true]

theorem State.placeRecord_overwriteOld {s : State} (hfull : s.notifyFull = true)
    (hpolicy : s.params.policy = .overwriteOld) (x : Submission) :
    s.placeRecord x = s.giveUpOldest.produceRecord x := by
  simp only [State.placeRecord, hpolicy, hfull, if_true]

theorem State.placeRecord_freeze {s : State} (hstops : s.notif.frozen = true ∨ s.notifyFull = true)
    (hpolicy : s.params.policy = .freeze) (x : Submission) :
    s.placeRecord x = { s.loseRecord with notif.frozen := true } := by
  simp only [State.placeRecord, hpolicy, hstops, if_true]

/-! ## The end of a record's write (R165, R151, R153) -/

/-- The end without error: the record in host memory, the indices, and the MSI where none is outstanding. -/
theorem State.notifyPosted_eq (s : State) (r : NotifyRecord) :
    s.notifyPosted r = { s with
      notif := { s.notif with
        writing := none
        post := nextSlot s.notif.post s.params.notifySize
        phase := if nextSlot s.notif.post s.params.notifySize = 0 then !s.notif.phase else s.notif.phase
        irq := true }
      hostMem := s.hostMem.store (slotAddr s.params.notifyBase s.notif.post 16) (r.bytes s.notif.phase)
      emitted := (if s.notif.irq then [] else [.msi 1]) ++
        .hostWrite (slotAddr s.params.notifyBase s.notif.post 16) (r.bytes s.notif.phase) :: s.emitted } := by
  cases hirq : s.notif.irq <;> simp [State.notifyPosted, State.notifyMsi, State.hostWritten, hirq]

theorem State.Works.exec_notificationWriteDone {s : State} (h : s.Works) {r : NotifyRecord}
    (hwriting : s.notif.writing = some r) (ok : Bool) :
    exec (.notificationWriteDone ok) s = .next (if ok then s.notifyPosted r else s.enterFaulted .recordWrite) := by
  rw [exec_eq_effect h.1]
  simp only [State.effect, State.notifyWriteEnds, hwriting, h.2, if_true]

/-! ## The record's bytes (11.6) -/

/-- The submission is an event: the type bit of its record (11.6). -/
def Submission.isEvent : Submission → Bool
  | .watch .. => false
  | .event _ => true

theorem NotifyRecord.bytes_eq (r : NotifyRecord) (phase : Bool) : r.bytes phase =
    leBytes 2 r.number.toNat ++ BitVec.ofNat 8 (bit phase + 2 * bit r.body.isEvent) :: 0 ::
      (leBytes 2 r.lost ++ r.body.bytes) := by
  cases hbody : r.body <;> simp [NotifyRecord.bytes, hbody, Submission.isEvent, bit]

@[simp] theorem Submission.length_bytes (x : Submission) : x.bytes.length = 10 := by
  cases x <;> simp [Submission.bytes]

/-- The two flags of a byte that holds no other. -/
theorem two_flags_of_byteAt {b : List Byte} {o : Nat} {x y : Bool}
    (h : byteAt b o = BitVec.ofNat 8 (bit x + 2 * bit y)) :
    flagAt b o 0 = x ∧ flagAt b o 1 = y ∧ clearFrom b o 2 := by
  rw [clearFrom_iff, fieldAt_one]
  simp only [flagAt_eq, h]
  cases x <;> cases y <;> decide

/-- The items of a submission stand from byte 06h on. -/
theorem NotifyRecord.fieldAt_body (r : NotifyRecord) (phase : Bool) (o n : Nat) :
    fieldAt (r.bytes phase) (o + 6) n = fieldAt r.body.bytes o n := by
  rw [NotifyRecord.bytes_eq, show o + 6 = o + 2 + 1 + 1 + 2 by omega, fieldAt_past_half, fieldAt_cons_succ,
    fieldAt_cons_succ, fieldAt_past_half]

/-- What every record holds before byte 06h. -/
theorem NotifyRecord.fields (r : NotifyRecord) (phase : Bool) :
    (r.bytes phase).length = 16 ∧ fieldAt (r.bytes phase) 0 2 = r.number.toNat ∧
    (flagAt (r.bytes phase) 2 0 = phase ∧ flagAt (r.bytes phase) 2 1 = r.body.isEvent ∧
      clearFrom (r.bytes phase) 2 2) ∧
    byteAt (r.bytes phase) 3 = 0 ∧ fieldAt (r.bytes phase) 4 2 = r.lost % 65536 := by
  refine ⟨by simp [NotifyRecord.bytes_eq], by simp [NotifyRecord.bytes_eq], two_flags_of_byteAt ?_, ?_, ?_⟩
  · simp [byteAt, NotifyRecord.bytes_eq, -BitVec.toNat_ofNat]
  · simp [byteAt, NotifyRecord.bytes_eq]
  · simp [NotifyRecord.bytes_eq, fieldAt_leBytes]

/-- The items of a WATCH: source, slot, region, offset, count and value. -/
theorem Submission.watch_fields (slot : Fin 16) (region : Fin 64) (offset : Nat) (value : Word) (count : Nat)
    (source : ApplySource) :
    let b := (Submission.watch slot region offset value count source).bytes
    fieldAt b 0 1 = (match source with | .localHost => 0 | .peer => 1) ∧ fieldAt b 1 1 = slot.val ∧
    fieldAt b 2 2 = region.val ∧ fieldAt b 4 1 = offset % 256 ∧ fieldAt b 5 1 = count % 256 ∧
    fieldAt b 6 4 = value.toNat := by
  have hslot : slot.val % 256 = slot.val := Nat.mod_eq_of_lt (by omega)
  have hregion : region.val % 65536 = region.val := Nat.mod_eq_of_lt (by omega)
  have hlast : fieldAt (leBytes 4 value.toNat) 0 4 = value.toNat := by simpa using fieldAt_word value []
  refine ⟨?_, ?_, ?_, ?_, ?_, ?_⟩
  · cases source <;> simp [Submission.bytes]
  all_goals simp [Submission.bytes, fieldAt_leBytes, hslot, hregion, hlast]

theorem Event.code_lt (e : Event) : e.code < 256 := by cases e <;> simp [Event.code]

theorem Event.paramByte_lt (e : Event) : e.paramByte < 256 := by
  cases e
  case linkLost reason => cases reason <;> decide
  case linkRejected reason => cases reason <;> decide
  case ownershipArrived region viaGrant => cases viaGrant <;> simp [Event.paramByte]
  case protocolError kind region => cases kind <;> simp [Event.paramByte, ProtocolKind.code]
  all_goals simp [Event.paramByte]

theorem Event.regionField_lt (e : Event) : e.regionField < 65536 := by
  cases e
  case protocolError kind region => cases region <;> simp only [Event.regionField] <;> omega
  all_goals simp only [Event.regionField]; omega

/-- The items of an EVENT: code, parameter byte, region, two bytes of zero and parameter word. -/
theorem Submission.event_fields (e : Event) :
    fieldAt (Submission.event e).bytes 0 1 = e.code ∧ fieldAt (Submission.event e).bytes 1 1 = e.paramByte ∧
    fieldAt (Submission.event e).bytes 2 2 = e.regionField ∧ fieldAt (Submission.event e).bytes 4 2 = 0 ∧
    fieldAt (Submission.event e).bytes 6 4 = e.paramWord % 4294967296 := by
  have hlast : fieldAt (leBytes 4 e.paramWord) 0 4 = e.paramWord % 4294967296 := by
    simpa using fieldAt_leBytes 4 e.paramWord []
  simp [Submission.bytes, fieldAt_leBytes, hlast, Nat.mod_eq_of_lt e.code_lt, Nat.mod_eq_of_lt e.paramByte_lt,
    Nat.mod_eq_of_lt e.regionField_lt]

/-- Settles O52: the policies by room in the ring, the end of the write, and the record's bytes by its body. -/
theorem notificationsFollowPolicy : Obligations.NotificationsFollowPolicy := by
  unfold Obligations.NotificationsFollowPolicy
  refine ⟨fun s x rest h hwriting hqueue => ?_, fun s r h hwriting => ?_, fun s r h hwriting => ?_, fun r phase => ?_⟩
  · intro full produced lost
    have hfull : ({ s with notif.queue := rest } : State).notifyFull = true ↔ full := State.notifyFull_iff _
    have hlost : ({ s with notif.queue := rest } : State).loseRecord = lost := by
      rw [State.loseRecord, State.countLoss_eq]
      rfl
    rw [h.exec_notificationTake hwriting hqueue]
    refine ⟨fun hroom hfrozen => ?_, fun hf hpolicy => ?_, fun hf hpolicy => ?_, fun hf hpolicy => ?_⟩
    · rw [State.placeRecord_room (fun hf => hroom (hfull.1 hf)) hfrozen]
      rfl
    · rw [State.placeRecord_dropNew (hfull.2 hf) hpolicy, hlost]
    · rw [State.placeRecord_overwriteOld (hfull.2 hf) hpolicy, State.giveUpOldest, State.countLoss_eq]
      rfl
    · rw [State.placeRecord_freeze (hf.symm.imp_right hfull.2) hpolicy, hlost]
  · intro slot
    have hslot : slotAddr s.params.notifyBase s.notif.post 16 = slot := by rw [slotAddr, Nat.mul_comm]
    rw [h.exec_notificationWriteDone hwriting, if_pos rfl, State.notifyPosted_eq, hslot]
    rfl
  · exact ⟨_, h.exec_notificationWriteDone hwriting false, State.enterFaulted_spec h.2 _⟩
  · obtain ⟨hlength, hnumber, ⟨hphase, hevent, hclear⟩, hzero, hlost⟩ := r.fields phase
    refine ⟨hlength, hnumber, hphase, hclear, hzero, fun hr => hlost.trans (Nat.mod_eq_of_lt (by omega)), ?_⟩
    have body := r.fieldAt_body phase
    cases hbody : r.body with
    | watch slot region offset value count source =>
      rw [hbody] at hevent
      simp only [body, hbody]
      obtain ⟨hsource, hslot, hregion, hoffset, hcount, hvalue⟩ :=
        Submission.watch_fields slot region offset value count source
      exact ⟨hevent, hsource, hslot, hregion, fun ho => hoffset.trans (Nat.mod_eq_of_lt (by omega)),
        fun hc => hcount.trans (Nat.mod_eq_of_lt (by omega)), hvalue⟩
    | event event =>
      rw [hbody] at hevent
      obtain ⟨hcode, hparam, hregion, hgap, hword⟩ := Submission.event_fields event
      simp only [body, hbody]
      refine ⟨hevent, hgap, ?_⟩
      have holds (hlt : event.paramWord < 4294967296) : _ ∧ _ ∧ _ ∧ _ :=
        ⟨hcode, hparam, hregion, hword.trans (Nat.mod_eq_of_lt hlt)⟩
      cases event
      case linkLost reason => cases reason <;> exact holds (by decide)
      case linkRejected reason => cases reason <;> exact holds (by decide)
      case sweepOverrun n => exact holds n.isLt
      case notifyResumed n => exact fun hn => holds (Nat.lt_of_le_of_lt hn (by decide))
      case protocolError kind region => cases kind <;> cases region <;> exact holds (by simp [Event.paramWord])
      all_goals exact holds (by simp [Event.paramWord])

end Sys2Proof.Machine
end

section
/-! The Watch Table: WATCH_SET and WATCH_CLEAR at the head of the Execution Queue, and the evaluation of apply reports
(R157 to R162). -/

namespace Sys2Proof.Machine

/-! ## WATCH_SET and WATCH_CLEAR (R159, R160) -/

theorem State.watchInfo_eq (s : State) (slot : Fin 16) : s.watchInfo slot =
    { w0 := BitVec.ofNat 32 slot.val ||| (if s.watch.table[slot].armed then 256 else 0), w1 := 0, w2 := 0 } := by
  have hbits : ∀ (slot : Fin 16) (armed : Bool), BitVec.ofNat 32 (slot.val + 256 * bit armed) =
      BitVec.ofNat 32 slot.val ||| (if armed then 256 else 0) := by decide
  rw [State.watchInfo, hbits]

theorem getElem_set_slot (table : Vector WatchEntry 16) (slot j : Fin 16) (e : WatchEntry) :
    (table.set slot e)[j] = if j = slot then e else table[j] := by
  simp only [Fin.getElem_fin, Vector.getElem_set, Fin.ext_iff, eq_comm]

/-- Once a slot is disarmed, a region is watched where another armed slot names it (R17). -/
theorem State.watched_of_disarmed {s t : State} {slot : Fin 16} {e : WatchEntry} (he : e.armed = false)
    (ht : t.watch.table = s.watch.table.set slot e) (r : Fin 64) :
    t.watched r = true ↔
      ∃ j : Fin 16, j ≠ slot ∧ s.watch.table[j].armed = true ∧ s.watch.table[j].spec.region = r := by
  rw [State.watched_iff, ht]
  refine exists_congr fun j => ?_
  rw [getElem_set_slot]
  by_cases hj : j = slot
  · simp [hj, he]
  · simp [hj]

section
variable {s : State} {i : Fin 32} {rest : List (Fin 32)} {e : OctEntry} {slot : Fin 16}

theorem State.HeadReady.exec_watchSet (h : s.HeadReady i rest e) {spec : WatchSpec}
    (hc : e.command = .watchSet slot spec) :
    exec .watchSet s = .next (if (s.region spec.region).cls = .off then
        s.headDone i rest e .regionOff (s.watchInfo slot)
      else { s with watch.table := s.watch.table.set slot { armed := true, spec := spec } }.headDone i rest e .ok
        (s.watchInfo slot)) := by
  rw [exec_eq_effect h.1.1]
  simp only [State.effect, State.watchSetAtHead, State.atHead_ready h, hc]
  exact congrArg _ (if_congr Iff.rfl (h.finish (by rfl) ..) (h.finish (by rfl) ..))

theorem State.HeadReady.exec_watchClear (h : s.HeadReady i rest e) (hc : e.command = .watchClear slot) :
    exec .watchClear s = .next
      ({ s with watch.table := s.watch.table.set slot { s.watch.table[slot] with armed := false } }.headDone i rest e
        .ok (s.watchInfo slot)) := by
  rw [exec_eq_effect h.1.1]
  simp only [State.effect, State.watchClearAtHead, State.atHead_ready h, hc]
  exact congrArg _ (h.finish (by rfl) ..)
end

/-- Settles O25: the two head rules by the class of the region, and the watched regions by the slots left armed. -/
theorem watchSlotsSetAndClear : Obligations.WatchSlotsSetAndClear := by
  unfold Obligations.WatchSlotsSetAndClear
  refine ⟨fun s i rest e slot spec h hc => ?_, fun s i rest e slot h hc => ?_⟩
  · rw [h.exec_watchSet hc, ← State.watchInfo_eq]
    exact ⟨fun hoff => by rw [if_pos hoff], fun hon => by rw [if_neg hon]⟩
  · rw [h.exec_watchClear hc, ← State.watchInfo_eq]
    exact ⟨_, rfl, rfl, State.watched_of_disarmed rfl rfl⟩

/-! ## The firing words (R161, R162) -/

theorem WatchSpec.fires_iff (w : WatchSpec) (before after : Word) : w.fires before after = true ↔
    if w.isMatch = true then before &&& w.mask ≠ w.value ∧ after &&& w.mask = w.value else before ≠ after := by
  unfold WatchSpec.fires
  split <;> simp

/-- A firing word is one of the words applied, at an offset of the watch, whose change fires. -/
theorem ApplyReport.mem_firing {p : ApplyReport} {w : WatchSpec} {offset : Nat} {value : Word} :
    (offset, value) ∈ p.firing w ↔ w.first ≤ offset ∧ offset ≤ w.last ∧
      ∃ k before, offset = p.first + k ∧ p.before[k]? = some before ∧ p.after[k]? = some value ∧
        w.fires before value = true := by
  simp only [ApplyReport.firing, List.mem_filterMap, Prod.exists, List.mk_mem_zipIdx_iff_le_and_getElem?_sub,
    List.getElem?_zip_eq_some, Option.ite_none_right_eq_some, Option.some.injEq, Prod.mk.injEq]
  constructor
  · rintro ⟨before, _, _, ⟨hle, hbefore, hafter⟩, ⟨hfirst, hlast, hfires⟩, rfl, rfl⟩
    exact ⟨hfirst, hlast, _, before, by omega, hbefore, hafter, hfires⟩
  · rintro ⟨hfirst, hlast, k, before, rfl, hbefore, hafter, hfires⟩
    refine ⟨before, value, p.first + k, ⟨by omega, ?_⟩, ⟨hfirst, hlast, hfires⟩, rfl, rfl⟩
    simpa using ⟨hbefore, hafter⟩

theorem zipIdx_pairwise_snd_lt {α : Type} (l : List α) (n : Nat) : (l.zipIdx n).Pairwise (·.2 < ·.2) := by
  have h : ((l.zipIdx n).map Prod.snd).Pairwise (· < ·) := by
    rw [List.zipIdx_map_snd]
    exact List.pairwise_lt_range'
  exact List.pairwise_map.1 h

/-- The firing words come with their offsets ascending, so the head is the lowest. -/
theorem ApplyReport.firing_pairwise (p : ApplyReport) (w : WatchSpec) :
    ((p.firing w).map fun x => x.1).Pairwise (· < ·) := by
  refine List.pairwise_map.2 (List.Pairwise.filterMap _ ?_ (zipIdx_pairwise_snd_lt _ p.first))
  intro a b hab x hx y hy
  simp only [Option.ite_none_right_eq_some, Option.some.injEq] at hx hy
  obtain ⟨_, rfl⟩ := hx
  obtain ⟨_, rfl⟩ := hy
  exact hab

/-! ## The evaluation of one slot -/

/-- What fires at an entry of the Watch Table on a report: nothing where the entry does not examine it (R161). -/
def WatchEntry.firing (e : WatchEntry) (p : ApplyReport) : List (Nat × Word) :=
  if e.examines p then p.firing e.spec else []

/-- The WATCH record that a slot submits on a report, with the lowest firing word and the number of them (R162). -/
def WatchEntry.record (e : WatchEntry) (p : ApplyReport) (slot : Fin 16) : Option Submission :=
  (e.firing p).head?.map fun w => .watch slot p.region w.1 w.2 (e.firing p).length p.source

/-- An entry after its evaluation on a report: a one-shot entry is disarmed as it fires (R162). -/
def WatchEntry.evaluated (e : WatchEntry) (p : ApplyReport) : WatchEntry :=
  if e.firing p ≠ [] ∧ e.spec.oneShot = true then { e with armed := false } else e

theorem WatchEntry.examines_iff {e : WatchEntry} {p : ApplyReport} : e.examines p = true ↔
    e.armed = true ∧ e.spec.region = p.region ∧ (p.source = .peer ∨ e.spec.both = true) := by
  simp [WatchEntry.examines, and_assoc]

theorem WatchEntry.evaluated_of_silent {e : WatchEntry} {p : ApplyReport} (h : e.firing p = []) :
    e.evaluated p = e := by
  simp [WatchEntry.evaluated, h]

theorem WatchEntry.evaluated_of_fires {e : WatchEntry} {p : ApplyReport} (harmed : e.armed = true)
    (h : e.firing p ≠ []) : e.evaluated p = { e with armed := !e.spec.oneShot } := by
  cases hshot : e.spec.oneShot <;> simp [WatchEntry.evaluated, h, hshot, ← harmed]

/-- The state with another Watch Table and with records that join the submissions. -/
def State.withSlots (s : State) (table : Vector WatchEntry 16) (records : List Submission) : State :=
  { s with watch.table := table, notif.queue := s.notif.queue ++ records }

theorem State.withSlots_withSlots (s : State) (table table' : Vector WatchEntry 16)
    (records records' : List Submission) :
    (s.withSlots table records).withSlots table' records' = s.withSlots table' (records ++ records') := by
  simp [State.withSlots]

theorem State.withSlots_self (s : State) : s.withSlots s.watch.table [] = s := by
  simp [State.withSlots]

theorem State.evaluateSlot_eq (p : ApplyReport) (s : State) (slot : Fin 16) : s.evaluateSlot p slot =
    s.withSlots (s.watch.table.set slot (s.watch.table[slot].evaluated p))
      (s.watch.table[slot].record p slot).toList := by
  generalize he : s.watch.table[slot] = e
  have hsame : s.watch.table.set slot e = s.watch.table := by
    rw [← he]
    exact Vector.set_getElem_self slot.2
  have silent (h : e.firing p = []) :
      s.withSlots (s.watch.table.set slot (e.evaluated p)) (e.record p slot).toList = s := by
    rw [WatchEntry.evaluated_of_silent h, hsame]
    simp [WatchEntry.record, h, State.withSlots_self]
  simp only [State.evaluateSlot, he]
  by_cases hexamines : e.examines p = true
  · have hfiring : e.firing p = p.firing e.spec := if_pos hexamines
    rw [if_pos hexamines]
    cases hwords : p.firing e.spec with
    | nil => exact (silent (hfiring.trans hwords)).symm
    | cons word words =>
      have hfires : e.firing p ≠ [] := by simp [hfiring, hwords]
      obtain ⟨harmed, _⟩ := WatchEntry.examines_iff.1 hexamines
      rw [WatchEntry.evaluated_of_fires harmed hfires]
      simp [State.submit, State.withSlots, WatchEntry.record, hfiring, hwords]
  · rw [if_neg hexamines]
    exact (silent (if_neg hexamines)).symm

theorem State.evaluateSlot_table (p : ApplyReport) (s : State) (slot j : Fin 16) :
    (s.evaluateSlot p slot).watch.table[j] =
      if j = slot then s.watch.table[slot].evaluated p else s.watch.table[j] := by
  rw [State.evaluateSlot_eq]
  exact getElem_set_slot ..

/-! ## The evaluation of a report -/

/-- Slots evaluated one after the other, none of them twice: each as if alone, and the records in their order. -/
theorem State.foldl_evaluateSlot (p : ApplyReport) {slots : List (Fin 16)} (hslots : slots.Nodup) (s : State) :
    slots.foldl (State.evaluateSlot p) s = s.withSlots
      (Vector.ofFn fun j => if j ∈ slots then s.watch.table[j].evaluated p else s.watch.table[j])
      (slots.filterMap fun j => s.watch.table[j].record p j) := by
  induction slots generalizing s with
  | nil => simp [State.withSlots_self]
  | cons slot slots ih =>
    obtain ⟨hslot, hslots⟩ := List.nodup_cons.1 hslots
    have htable : ∀ j : Fin 16, (if j ∈ slots then (s.evaluateSlot p slot).watch.table[j].evaluated p
        else (s.evaluateSlot p slot).watch.table[j]) =
        if j ∈ slot :: slots then s.watch.table[j].evaluated p else s.watch.table[j] := fun j => by
      rw [State.evaluateSlot_table]
      by_cases hj : j = slot
      · simp [hj, hslot]
      · simp [hj]
    have hrecords : slots.filterMap (fun j => (s.evaluateSlot p slot).watch.table[j].record p j) =
        slots.filterMap fun j => s.watch.table[j].record p j :=
      List.filterMap_congr fun j hj => by rw [State.evaluateSlot_table, if_neg (ne_of_mem_of_not_mem hj hslot)]
    rw [List.foldl_cons, ih hslots]
    simp only [htable, hrecords]
    rw [State.evaluateSlot_eq, State.withSlots_withSlots, List.filterMap_cons]
    cases s.watch.table[slot].record p slot <;> rfl

theorem State.Works.exec_watchEvaluation {s : State} (h : s.Works) {p : ApplyReport} {rest : List ApplyReport}
    (hreports : s.watch.reports = p :: rest) : exec .watchEvaluation s = .next
      ({ s with watch.reports := rest }.withSlots (Vector.ofFn fun j => s.watch.table[j].evaluated p)
        ((List.finRange 16).filterMap fun j : Fin 16 => s.watch.table[j].record p j)) := by
  rw [exec_eq_effect h.1]
  simp only [State.effect, State.evaluateReport, h.2, hreports, if_true,
    State.foldl_evaluateSlot p (List.nodup_finRange 16), List.mem_finRange]

/-- Settles O51: the evaluation of all sixteen slots, and the firing words by membership and order. -/
theorem watchEvaluationFires : Obligations.WatchEvaluationFires := by
  unfold Obligations.WatchEvaluationFires
  refine ⟨fun s p rest h hreports => ?_, fun p w _ => ⟨fun offset value => ?_, p.firing_pairwise w⟩⟩
  · intro fires
    have hfires : ∀ j, fires j = s.watch.table[j].firing p := fun j => by
      simp only [fires, WatchEntry.firing, WatchEntry.examines_iff]
    refine ⟨_, h.exec_watchEvaluation hreports, rfl, rfl, fun j => ?_, ?_⟩
    · rw [hfires]
      exact Vector.getElem_ofFn j.2
    · simp only [hfires]
      rfl
  · simp only [ApplyReport.mem_firing, WatchSpec.fires_iff]

end Sys2Proof.Machine
end

section
/-! The control commands by device state: START in HALTED, and the commands that are refused (R174, R176). -/

namespace Sys2Proof.Machine

/-! ## START in HALTED (R174, R176) -/

/-- The device block once START is accepted: the setup address is taken, and both codes are NONE (R174, R176). -/
def DeviceBlock.startAccepted (d : DeviceBlock) : DeviceBlock :=
  { d with
    controlRefused := false, state := .loading, loadAddr := d.setupHi ++ d.setupLo, faultCode := .none,
    setupError := .none }

theorem State.startWritten_aligned {s : State} (h : s.dev.state = .halted) (ha : s.dev.setupLo.toNat % 64 = 0) :
    s.startWritten = { s with
      dev := s.dev.startAccepted
      emitted := .hostRead (s.dev.setupHi ++ s.dev.setupLo) 128 :: s.emitted } := by
  rw [State.startWritten, if_pos h, if_pos ha]
  rfl

theorem State.startWritten_unaligned {s : State} (h : s.dev.state = .halted) (ha : s.dev.setupLo.toNat % 64 ≠ 0) :
    s.startWritten = State.loadFails { s with dev := s.dev.startAccepted } .address := by
  rw [State.startWritten, if_pos h, if_neg ha]
  rfl

/-! ## Control commands refused (R174) -/

theorem State.startWritten_refused {s : State} (h : s.dev.state ≠ .halted) : s.startWritten = s.refuseControl := by
  rw [State.startWritten, if_neg h]

theorem State.stopWritten_refused {s : State} (h : s.dev.state ≠ .running) : s.stopWritten = s.refuseControl := by
  rw [State.stopWritten_eq, if_neg h]

theorem State.clearFaultWritten_refused {s : State} (h : s.dev.state ≠ .faulted) :
    s.clearFaultWritten = s.refuseControl := by
  rw [State.clearFaultWritten, if_neg h]

theorem controlInvalidCode_wellFormed_iff {value : Word} :
    (Instr.controlInvalidCode value).wellFormed = true ↔ value.toNat % 256 = 0 ∨ 4 < value.toNat % 256 := by
  simp [Instr.wellFormed, invalidControlCode]

theorem State.controlWrite_refused (s : State) {code : Nat} (h : code = 0 ∨ 4 < code) :
    s.controlWrite code = s.refuseControl := by
  rw [State.controlWrite_eq, if_neg, if_neg, if_neg, if_neg] <;> omega

/-! ## The control commands -/

theorem exec_next_of_effect {s t : State} {c : Instr} (hp : s.dev.perst = false) (h : s.effect c = t) :
    exec c s = .next t :=
  h ▸ exec_eq_effect hp c

/-- Settles O4: START in HALTED by the alignment of the setup address, and each refusal by the guard that fails. -/
theorem controlCommandsByState : Obligations.ControlCommandsByState := by
  unfold Obligations.ControlCommandsByState
  refine ⟨fun s hp h ha => ?_, fun s hp h ha => ?_, fun s hp h => ?_, fun s hp h => ?_, fun s hp h => ?_,
    fun s value hp h => ?_⟩
  · exact exec_next_of_effect hp (State.startWritten_aligned h ha)
  · exact exec_next_of_effect hp (State.startWritten_unaligned h ha)
  · exact exec_next_of_effect hp (State.startWritten_refused h)
  · exact exec_next_of_effect hp (State.stopWritten_refused h)
  · exact exec_next_of_effect hp (State.clearFaultWritten_refused h)
  · exact exec_next_of_effect hp (s.controlWrite_refused (controlInvalidCode_wellFormed_iff.1 h))

end Sys2Proof.Machine
end

section
/-! ## Taking the command at the front of the queue (95) -/

namespace Sys2Proof.Machine

theorem step_of_pending_cons {s : State} {c : Instr} {rest : List Instr} (h : s.pending = c :: rest) :
    step s = exec c { s with pending := rest } := by
  rw [step, h]

/-- Settles O1: the command placed in front by `step_withFront`, and the one that stands there by reading the queue. -/
theorem stepRunsFrontCommand : Obligations.StepRunsFrontCommand := by
  unfold Obligations.StepRunsFrontCommand
  exact ⟨step_withFront, fun _ _ _ => step_of_pending_cons⟩

end Sys2Proof.Machine
end
